-- ==== Sys2Proof/Word.lean ====
section
/-! DEFINITION. The word widths of the spec (00_scope.md R11): a byte, the 16-bit DMA counts and lengths, the
32-bit UART register images and the 64-bit counts of ticks. -/

namespace Sys2Proof

/-- 8 bits: a byte of the packet buffer, of the line or of an operation word (R11). -/
abbrev Byte := BitVec 8

/-- 16 bits: `TXLEN`, `RXLEN`, the DMA lengths and residual counts, a buffer index (R24, R38, R40, R112). -/
abbrev Half := BitVec 16

/-- 32 bits: a UART register on the bus (R31). -/
abbrev Word := BitVec 32

/-- 64 bits: a count of ticks of one microsecond (R253). -/
abbrev Time := BitVec 64

end Sys2Proof
end

