-- ==== Sys2Proof/Syntax.lean ====
section
/-! DEFINITION. The operations of UPXE-OPS 1.0, one constructor per row of spec/opcode_table.json
(30_encoding.md R113), and the agent and context each belongs to (00_scope.md R16, 60_exceptions.md R311).

An index operand is 16 bits and a tick count 64 bits wide, the widths to which R112 extends them; what a word can
hold of them is checked by `Instr.wellFormed` (assumption log 17). -/

namespace Sys2Proof

/-- An operation. -/
inductive Instr where
  | init
  | exchange
  | bufwr (a : Half) (d : Byte)
  | bufrd (a : Half)
  | diag
  | xs1
  | xs2
  | xs3
  | xs4
  | xs5
  | xs6
  | xs7
  | xs8
  | xs9
  | xs10e
  | xs10p
  | xs10t
  | xs10s
  | xs11
  | xs12
  | xs13
  | dmaCb (derr : Bool)
  | uartIrq
  | lineRx (b : Byte) (ne fe : Bool)
  | lineIdle
  | lineTx
  | dmaRxXfer
  | dmaTxXfer
  | dmaFault
  | tick (d : Time)
deriving DecidableEq, Repr

/-- The agents of R16. -/
inductive Agent where
  | host
  | sequencer
  | arbiter
  | rxDma
  | txDma
  | uartTx
  | line
  | clock
deriving DecidableEq, Repr

/-- The agent of an operation (R16, and the agent column of R113). -/
def Instr.agent : Instr → Agent
  | .init => .host
  | .exchange => .host
  | .bufwr _ _ => .host
  | .bufrd _ => .host
  | .diag => .host
  | .xs1 => .sequencer
  | .xs2 => .sequencer
  | .xs3 => .sequencer
  | .xs4 => .sequencer
  | .xs5 => .sequencer
  | .xs6 => .sequencer
  | .xs7 => .sequencer
  | .xs8 => .sequencer
  | .xs9 => .sequencer
  | .xs10e => .sequencer
  | .xs10p => .sequencer
  | .xs10t => .sequencer
  | .xs10s => .sequencer
  | .xs11 => .sequencer
  | .xs12 => .sequencer
  | .xs13 => .sequencer
  | .dmaCb _ => .arbiter
  | .uartIrq => .arbiter
  | .lineRx _ _ _ => .line
  | .lineIdle => .line
  | .lineTx => .uartTx
  | .dmaRxXfer => .rxDma
  | .dmaTxXfer => .txDma
  | .dmaFault => .rxDma
  | .tick _ => .clock

/-- The execution contexts of R311; the platform agents of R16 are outside both. -/
inductive Context where
  | caller
  | interrupt
  | platform
deriving DecidableEq, Repr

/-- R311: host operations and sequencer steps run in caller context, the two handlers in interrupt context. -/
def Agent.context : Agent → Context
  | .host => .caller
  | .sequencer => .caller
  | .arbiter => .interrupt
  | .rxDma => .platform
  | .txDma => .platform
  | .uartTx => .platform
  | .line => .platform
  | .clock => .platform

/-- The three formats of R111. -/
inductive Format where
  | f0
  | f1
  | f2
deriving DecidableEq, Repr

/-- The number of bytes of a word of a format (R111). -/
def Format.bytes : Format → Nat
  | .f0 => 1
  | .f1 => 2
  | .f2 => 3

end Sys2Proof
end

