-- ==== Sys2Proof/WellFormed.lean ====
section
/-! DEFINITION. Which operations have an operation word (30_encoding.md R111, R112): a buffer index fits one byte
and a tick count two. Every other operand is exactly as wide as its field. -/

namespace Sys2Proof

/-- `true` when the operands fit the fields of the operation's word. -/
def Instr.wellFormed : Instr → Bool
  | .init => true
  | .exchange => true
  | .bufwr a _ => decide (a.toNat < 256)
  | .bufrd a => decide (a.toNat < 256)
  | .diag => true
  | .xs1 => true
  | .xs2 => true
  | .xs3 => true
  | .xs4 => true
  | .xs5 => true
  | .xs6 => true
  | .xs7 => true
  | .xs8 => true
  | .xs9 => true
  | .xs10e => true
  | .xs10p => true
  | .xs10t => true
  | .xs10s => true
  | .xs11 => true
  | .xs12 => true
  | .xs13 => true
  | .dmaCb _ => true
  | .uartIrq => true
  | .lineRx _ _ _ => true
  | .lineIdle => true
  | .lineTx => true
  | .dmaRxXfer => true
  | .dmaTxXfer => true
  | .dmaFault => true
  | .tick d => decide (d.toNat < 65536)

end Sys2Proof
end

