-- ==== Sys2Proof/Decode.lean ====
section
/-! DEFINITION. Operation words (30_encoding.md R110 to R116): the opcode table, the decoder over a byte string,
the encoder, and the host's decoding of one table word. -/

namespace Sys2Proof

/-- One row of the opcode map R113: a word is this operation exactly when its first byte `OPC` has
`OPC and mask = pat`; `build` assembles the operands from the bytes of the word (R112). -/
structure OpRow where
  mask : Byte
  pat : Byte
  format : Format
  build : Byte → Byte → Byte → Instr

/-- `zext_16` of an index byte (R112). -/
def indexOperand (imm : Byte) : Half := imm.setWidth 16

/-- `zext_64(imm_a) + 256 * zext_64(imm_b)`: the little-endian tick count (R112). -/
def tickOperand (immA immB : Byte) : Time := immA.setWidth 64 + 256 * immB.setWidth 64

/-- R113, the host commands: class 0x0. -/
def hostRows : List OpRow :=
  [⟨0xFF, 0x01, .f0, fun _ _ _ => .init⟩,
   ⟨0xFF, 0x02, .f0, fun _ _ _ => .exchange⟩,
   ⟨0xFF, 0x03, .f2, fun _ a d => .bufwr (indexOperand a) d⟩,
   ⟨0xFF, 0x04, .f1, fun _ a _ => .bufrd (indexOperand a)⟩,
   ⟨0xFF, 0x0F, .f0, fun _ _ _ => .diag⟩]

/-- R113, the sequencer steps: class 0x1, and class 0x2 for the alternate step of `WAIT`. -/
def sequencerRows : List OpRow :=
  [⟨0xFF, 0x11, .f0, fun _ _ _ => .xs1⟩,
   ⟨0xFF, 0x12, .f0, fun _ _ _ => .xs2⟩,
   ⟨0xFF, 0x13, .f0, fun _ _ _ => .xs3⟩,
   ⟨0xFF, 0x14, .f0, fun _ _ _ => .xs4⟩,
   ⟨0xFF, 0x15, .f0, fun _ _ _ => .xs5⟩,
   ⟨0xFF, 0x16, .f0, fun _ _ _ => .xs6⟩,
   ⟨0xFF, 0x17, .f0, fun _ _ _ => .xs7⟩,
   ⟨0xFF, 0x18, .f0, fun _ _ _ => .xs8⟩,
   ⟨0xFF, 0x19, .f0, fun _ _ _ => .xs9⟩,
   ⟨0xFF, 0x1A, .f0, fun _ _ _ => .xs10e⟩,
   ⟨0xFF, 0x1B, .f0, fun _ _ _ => .xs10p⟩,
   ⟨0xFF, 0x2B, .f0, fun _ _ _ => .xs10t⟩,
   ⟨0xFF, 0x1C, .f0, fun _ _ _ => .xs10s⟩,
   ⟨0xFF, 0x1D, .f0, fun _ _ _ => .xs11⟩,
   ⟨0xFF, 0x1E, .f0, fun _ _ _ => .xs12⟩,
   ⟨0xFF, 0x1F, .f0, fun _ _ _ => .xs13⟩]

/-- R113, the arbiter events (class 0x3) and the platform events (class 0x5). -/
def eventRows : List OpRow :=
  [⟨0xFE, 0x30, .f0, fun opc _ _ => .dmaCb (opc.getLsbD 0)⟩,
   ⟨0xFF, 0x32, .f0, fun _ _ _ => .uartIrq⟩,
   ⟨0xFC, 0x50, .f1, fun opc b _ => .lineRx b (opc.getLsbD 0) (opc.getLsbD 1)⟩,
   ⟨0xFF, 0x54, .f0, fun _ _ _ => .lineIdle⟩,
   ⟨0xFF, 0x55, .f0, fun _ _ _ => .lineTx⟩,
   ⟨0xFF, 0x56, .f0, fun _ _ _ => .dmaRxXfer⟩,
   ⟨0xFF, 0x57, .f0, fun _ _ _ => .dmaTxXfer⟩,
   ⟨0xFF, 0x58, .f0, fun _ _ _ => .dmaFault⟩,
   ⟨0xFF, 0x59, .f2, fun _ a b => .tick (tickOperand a b)⟩]

/-- The opcode map, one row per row of R113's table. -/
def opcodeTable : List OpRow := hostRows ++ sequencerRows ++ eventRows

/-- The row of a first byte, if the byte is a legal opcode. -/
def rowOf (opc : Byte) : Option OpRow := opcodeTable.find? fun r => opc &&& r.mask == r.pat

/-- The length of a word by its first byte alone (R116); `none` for an illegal opcode (R115). -/
def wordLength (opc : Byte) : Option Nat := (rowOf opc).map fun r => r.format.bytes

/-- What the decoder says of a byte string: its first word and the rest; nothing left; or `invalid`, by name (R115). -/
inductive Decoded where
  | word (i : Instr) (rest : List Byte)
  | endOfTrace
  | illegalOpcode (opc : Byte)
  | truncated (opc : Byte)
deriving DecidableEq, Repr

/-- Decode the first operation word of a byte string (R110 to R116). -/
def decode : List Byte → Decoded
  | [] => .endOfTrace
  | opc :: tail =>
    match rowOf opc with
    | none => .illegalOpcode opc
    | some r =>
      match r.format, tail with
      | .f0, rest => .word (r.build opc 0 0) rest
      | .f1, a :: rest => .word (r.build opc a 0) rest
      | .f2, a :: b :: rest => .word (r.build opc a b) rest
      | _, _ => .truncated opc

/-- The operation word of an operation (R111 to R113); meaningful when it is well-formed. -/
def encode : Instr → List Byte
  | .init => [0x01]
  | .exchange => [0x02]
  | .bufwr a d => [0x03, a.setWidth 8, d]
  | .bufrd a => [0x04, a.setWidth 8]
  | .diag => [0x0F]
  | .xs1 => [0x11]
  | .xs2 => [0x12]
  | .xs3 => [0x13]
  | .xs4 => [0x14]
  | .xs5 => [0x15]
  | .xs6 => [0x16]
  | .xs7 => [0x17]
  | .xs8 => [0x18]
  | .xs9 => [0x19]
  | .xs10e => [0x1A]
  | .xs10p => [0x1B]
  | .xs10t => [0x2B]
  | .xs10s => [0x1C]
  | .xs11 => [0x1D]
  | .xs12 => [0x1E]
  | .xs13 => [0x1F]
  | .dmaCb derr => [0x30 + (if derr then 1 else 0)]
  | .uartIrq => [0x32]
  | .lineRx b ne fe => [0x50 + (if ne then 1 else 0) + 2 * (if fe then 1 else 0), b]
  | .lineIdle => [0x54]
  | .lineTx => [0x55]
  | .dmaRxXfer => [0x56]
  | .dmaTxXfer => [0x57]
  | .dmaFault => [0x58]
  | .tick d => [0x59, d.setWidth 8, (d >>> 8).setWidth 8]

/-- A trace: the concatenation of operation words (R110). -/
def encodeTrace : List Instr → List Byte
  | [] => []
  | i :: is => encode i ++ encodeTrace is

/-- The bytes of a table word of `nbits` bits, byte 0 first, the bits above `nbits` zero, up to the longest word. -/
def tableBytes (nbits w : Nat) : List Byte :=
  let v := w % 2 ^ nbits
  [BitVec.ofNat 8 v, BitVec.ofNat 8 (v / 256), BitVec.ofNat 8 (v / 65536)]

/-- The bytes of the one word a table word holds: as many as its first byte says (R116), one if it is illegal. -/
def tableWordBytes (nbits w : Nat) : List Byte :=
  let bs := tableBytes nbits w
  match bs with
  | [] => []
  | opc :: _ => bs.take ((wordLength opc).getD 1)

/-- The instruction the decoder reads from a word numbered as spec/opcode_table.json numbers it. -/
def decodeTableWord (nbits w : Nat) : Option Instr :=
  match decode (tableWordBytes nbits w) with
  | .word i _ => some i
  | .endOfTrace => none
  | .illegalOpcode _ => none
  | .truncated _ => none

end Sys2Proof
end

