-- ==== Sys2Proof/Config.lean ====
section
/-! DEFINITION. The parameters of the model (00_scope.md R9, R10) and the values the spec leaves open.

A parameter is a field of `Config`, and a State carries its `Config` (assumption log 1): a statement about every
state is thereby a statement about every value of every parameter, and a test may fix them. The opaque constants have
no body: no proof can learn anything of them. -/

namespace Sys2Proof

/-- How a parameter function of R10 is given: the reference instance of the spec, or some other total function of
its argument, of which nothing is known (assumption log 2). -/
inductive FnSel where
  | reference
  | other (k : Nat)
deriving DecidableEq, Repr

/-- The parameters of R9 that the spec calls open. -/
structure Config where
  /-- `CAP`, capacity of `BUF` in bytes, `4 <= CAP <= 65535`. -/
  cap : Half
  /-- `BITRATE`, bit/s. No rule reads it but the reference value of `CHAR_TICKS` (R104). -/
  bitrate : Nat
  /-- `UART_CLOCK`. No rule needs it. -/
  uartClock : Nat
  /-- `BRR_VALUE`, written to `BRR` by `INIT`. -/
  brrValue : Half
  /-- `CHAR_TICKS`, one character time, at least 1. -/
  charTicks : Time
  /-- `SLEEP_TICKS`, at least `CHAR_TICKS`. -/
  sleepTicks : Time
  /-- `CNT_W`, width of each performance counter, at least 1. -/
  cntW : Nat
  /-- `RXCH_AVAIL`: the platform grants the receive channel at `INIT`. -/
  rxchAvail : Bool
  /-- `TXCH_AVAIL`: the platform grants the transmit channel at `INIT`. -/
  txchAvail : Bool
  /-- `CACHE_LINE`, a power of two. No rule depends on it. -/
  cacheLine : Nat
  /-- `CRC8`, the checksum function. -/
  crc8 : FnSel
  /-- `FRAME_LEN`, the total framed size a header declares. -/
  frameLen : FnSel
  /-- `IS_CORRUPT`, the corrupt marker on the code byte. -/
  isCorrupt : FnSel
deriving DecidableEq, Repr

/-- The constraints of R9's table. The upper bound of `CAP` is the width of its type. -/
def Config.wf (c : Config) : Bool :=
  decide (4 ≤ c.cap.toNat) && decide (0 < c.bitrate) && decide (0 < c.uartClock) &&
  decide (1 ≤ c.charTicks.toNat) && decide (c.charTicks.toNat ≤ c.sleepTicks.toNat) &&
  decide (1 ≤ c.cntW) && decide (c.cacheLine ≠ 0) && decide (c.cacheLine &&& (c.cacheLine - 1) = 0)

/-- `TIMEOUT_TICKS` = 10 ms in ticks of one microsecond (R9, 41_exchange_sequencer.md R168). -/
def timeoutTicks : Time := 10000

/-- `HDR_LEN`, `CRC_LEN`, `MIN_FRAME` (R9, 30_encoding.md R100). -/
def hdrLen : Nat := 3
def crcLen : Nat := 1
def minFrame : Nat := hdrLen + 0 + crcLen

/-- `CHAR_TICKS` by the formula of 30_encoding.md R104: ten bit times in microseconds, rounded up. -/
def charTicksOf (bitrate : Nat) : Nat := (10 * 1000000 + bitrate - 1) / bitrate

/-- `UART_CLOCK - 1`: the spec gives the clock no value (assumption log 3). -/
opaque Config.openUartClock : Nat

/-- `BRR_VALUE` by the formula of R9's table, `round(UART_CLOCK / BITRATE)`, in 16 bits. Which way a tie is rounded and
that a larger quotient loses its upper bits are the model's choice (assumption log 3). -/
def brrValueOf (uartClock bitrate : Nat) : Half := BitVec.ofNat 16 ((2 * uartClock + bitrate) / (2 * bitrate))

/-- A checksum function other than the reference instance (assumption log 2). -/
opaque Config.openCrc8 : Nat → List Byte → Byte

/-- A size accessor other than the reference instance; it reads header bytes only (assumption log 2). -/
opaque Config.openFrameLen : Nat → Byte → Byte → Byte → Nat

/-- A corrupt marker other than the reference instance (assumption log 2). -/
opaque Config.openIsCorrupt : Nat → Byte → Bool

/-- The free value of `RESULT` (a code 0, 1 or 2) when `XS13` runs with `OUTCOME` None or Pending, drawn by
the counter `State.free` (assumption log 9). -/
opaque Config.freeResultCode : Nat → Fin 3

/-- The reference values of R9; `UART_CLOCK`, which has none, is an open constant (assumption logs 1 and 3). -/
def Config.reference : Config where
  cap := 64
  bitrate := 1500000
  uartClock := Config.openUartClock + 1
  brrValue := brrValueOf (Config.openUartClock + 1) 1500000
  charTicks := 7
  sleepTicks := 7
  cntW := 32
  rxchAvail := true
  txchAvail := true
  cacheLine := 32
  crc8 := .reference
  frameLen := .reference
  isCorrupt := .reference

end Sys2Proof
end

