-- ==== Sys2Proof/Machine/State.lean ====
section
/-! DEFINITION. The state of the machine (10_state.md), the faults and refusals of 60_exceptions.md R318, and the
state after reset (70_reset_and_hazards.md R340). -/

namespace Sys2Proof.Machine

/-- `SEQ`, the sequencer state, the block's program counter (R22). -/
inductive Seq where
  | idle
  | s1
  | s2
  | s3
  | s4
  | s5
  | s6
  | s7
  | s8
  | s9
  | s10
  | wait
  | sleep
  | s11
  | s12
  | s13
deriving DecidableEq, Repr

/-- `RXSTATUS` (R23). -/
inductive RxStatus where
  | inactive
  | waiting
  | completedOk
  | completedError
deriving DecidableEq, Repr

/-- `OUTCOME`, the internal latch (R27). The codes 5 to 7 are never written and have no member. -/
inductive ExOutcome where
  | none
  | pending
  | success
  | timeout
  | protocolError
deriving DecidableEq, Repr

/-- `RESULT` (R28). The code 3 is never written and has no member. -/
inductive Result where
  | success
  | timeout
  | protocolError
deriving DecidableEq, Repr

/-- `INIT_RESULT` (R28). -/
inductive InitResult where
  | notRun
  | ok
  | resourceExhausted
deriving DecidableEq, Repr

/-- A completion status, the operand of `Complete` (30_encoding.md R105). -/
inductive Status where
  | ok
  | err
deriving DecidableEq, Repr

/-- The fields of the UART register block (R30, R31, R32), each kept by itself as R31 allows. -/
structure Uart where
  ore : Bool
  ne : Bool
  fe : Bool
  idle : Bool
  rxne : Bool
  txe : Bool
  rdr : Byte
  tdr : Byte
  brr : Half
  ue : Bool
  te : Bool
  re : Bool
  idleie : Bool
  cr2 : Word
  eie : Bool
  dmar : Bool
  dmat : Bool
deriving DecidableEq, Repr

/-- `RXDMA`, the receive channel record (R38). -/
structure RxDma where
  en : Bool
  circ : Bool
  len : Half
  ndtr : Half
  cb : Bool
deriving DecidableEq, Repr

/-- `TXDMA`, the transmit channel record (R40). -/
structure TxDma where
  en : Bool
  len : Half
  ndtr : Half
deriving DecidableEq, Repr

/-- The names of the nine performance counters, in the order of R41. -/
inductive Counter where
  | txn
  | retry
  | timeout
  | crc
  | dmaerr
  | proto
  | uart
  | idle
  | badidle
deriving DecidableEq, Repr

/-- The nine performance counters (R41), each a count below `2 ^ CNT_W`. -/
structure Counters where
  txn : Nat
  retry : Nat
  timeout : Nat
  crc : Nat
  dmaerr : Nat
  proto : Nat
  uart : Nat
  idle : Nat
  badidle : Nat
deriving DecidableEq, Repr

/-- The contents of `BUF` (R37): index and byte pairs, indices strictly rising; an unlisted index holds no value. -/
abbrev Memory := List Host.Cell

/-- The state: block state, packet buffer, platform interface state (R20), and the model's own fields
`hostOut`, `trace`, `free` and `cfg`. -/
structure State where
  /-- `INITED` (R21). -/
  inited : Bool
  /-- `SEQ` (R22). -/
  seq : Seq
  /-- `RXSTATUS` (R23). -/
  rxstatus : RxStatus
  /-- `SIG`, the completion signal (R25). -/
  sig : Nat
  /-- `CRIT` (R26). -/
  crit : Bool
  /-- `OUTCOME` (R27). -/
  outcome : ExOutcome
  /-- `RESULT` (R28). -/
  result : Result
  /-- `RESULT_VALID` (R28). -/
  resultValid : Bool
  /-- `INIT_RESULT` (R28). -/
  initResult : InitResult
  /-- `PERF_ACTIVE` (R29). -/
  perfActive : Bool
  /-- `DEADLINE`, x0 (R24). -/
  deadline : Time
  /-- `SLEEP_UNTIL`, x1 (R24). -/
  sleepUntil : Time
  /-- `TXLEN`, x2 (R24). -/
  txlen : Half
  /-- `RXLEN`, x3 (R24). -/
  rxlen : Half
  /-- `PERF_T0`, x4 (R24). -/
  perfT0 : Time
  /-- `DUR_LAST`, x5 (R24). -/
  durLast : Time
  /-- The nine counters (R41). -/
  cnt : Counters
  /-- `BUF` (R37). -/
  mem : Memory
  /-- The UART register block (R30, R31, R32). -/
  uart : Uart
  /-- `IRQ_ATTACHED` (R35). -/
  irqAttached : Bool
  /-- `RXDMA` (R38). -/
  rxdma : RxDma
  /-- `CBPEND`, the pending completion event with its `derr` bit (R39). -/
  cbpend : Option Bool
  /-- `TXDMA` (R40). -/
  txdma : TxDma
  /-- `NOW` (R42). -/
  now : Time
  /-- `TXOUT` (R43). -/
  txout : List Byte
  /-- The model's own: the bytes `BUFRD` has returned to the host, oldest first (assumption log 6). -/
  hostOut : List Byte
  /-- The model's own: the rest of the trace of operation words (30_encoding.md R110; assumption log 5). -/
  trace : List Byte
  /-- The model's own: how many free values have been drawn (assumption log 9). -/
  free : Nat
  /-- The parameters of 00_scope.md R9, which no operation writes (assumption log 1). -/
  cfg : Config
deriving DecidableEq, Repr

/-- Where the model stops inside an operation (R318). -/
inductive Fault where
  /-- `UnwrittenBuffer(i)`: `BUFRD`, `XS7`, `DMA_TX_XFER`, `UART_IRQ` or `XS12` reads `BUF[i]` and nothing has
  written it since reset (20_memory.md R73). Safe: the model stops where it would have to invent a byte. -/
  | unwrittenBuffer (i : Nat)
  /-- `TxLenOutOfRange(L)`: `XS7` finds a declared length 0 or above `CAP` (41_exchange_sequencer.md R166). Safe. -/
  | txLenOutOfRange (len : Nat)
  /-- An access by `DMA_RX_XFER`, `DMA_TX_XFER` or a header read outside `0 .. CAP-1`: no such address exists
  (20_memory.md R70, R71). No reachable state raises it. Safe (assumption log 8). -/
  | bufferRange (i : Nat)
deriving DecidableEq, Repr

/-- Why the model gives an operation no step (R318). -/
inductive Refusal where
  /-- No meaning yet: raised by no arm of `exec`. Safe. -/
  | notModelled (mnemonic : String)
  /-- `CallerError`: `INIT`, `EXCHANGE`, `BUFWR`, `BUFRD` used as 40_host_commands.md R147 and R318 exclude. Safe. -/
  | callerError
  /-- `DiagNotModelled`: `DIAG` (40_host_commands.md R146). Safe. -/
  | diagNotModelled
  /-- `NotEnabled(op)`: any other operation whose guard is false (30_encoding.md R110). Safe. -/
  | notEnabled (op : Instr)
  /-- `IllegalWord`: raised by `step` on an illegal opcode byte or a truncated word (30_encoding.md R115). Safe. -/
  | illegalWord
deriving DecidableEq, Repr

/-- The UART at reset (R340): `TXE` set, all else clear. `RDR` and `TDR` hold no value in the spec; the model
names 0, which nothing reads (DESIGN CHOICE, assumption log 4). -/
def Uart.reset : Uart where
  ore := false
  ne := false
  fe := false
  idle := false
  rxne := false
  txe := true
  rdr := 0
  tdr := 0
  brr := 0
  ue := false
  te := false
  re := false
  idleie := false
  cr2 := 0
  eie := false
  dmar := false
  dmat := false

/-- The state after power-on reset (R340) of a machine with parameters `cfg`. -/
def State.resetWith (cfg : Config) : State where
  inited := false
  seq := .idle
  rxstatus := .inactive
  sig := 0
  crit := false
  outcome := .none
  result := .success
  resultValid := false
  initResult := .notRun
  perfActive := false
  deadline := 0
  sleepUntil := 0
  txlen := 0
  rxlen := 0
  perfT0 := 0
  durLast := 0
  cnt := ⟨0, 0, 0, 0, 0, 0, 0, 0, 0⟩
  mem := []
  uart := Uart.reset
  irqAttached := false
  rxdma := ⟨false, false, 0, 0, false⟩
  cbpend := Option.none
  txdma := ⟨false, 0, 0⟩
  now := 0
  txout := []
  hostOut := []
  trace := []
  free := 0
  cfg := cfg

/-- The state after reset with the reference parameters of 00_scope.md R9 (assumption log 1). -/
def State.reset : State := State.resetWith Config.reference

end Sys2Proof.Machine
end

