-- ==== Sys2Proof/Machine/Flags.lean ====
section
/-! DEFINITION. Every flag computation the spec gives: the UART interrupt request, the DMA requests, the timer's
outputs, the register images that show the flags, and the counters' step. -/

namespace Sys2Proof.Machine

/-- `ORE or NE or FE`: a line error is flagged (43_status_interrupt_detectors.md R210). -/
def Uart.lineErr (u : Uart) : Bool := u.ore || u.ne || u.fe

/-- The interrupt request of the UART, a level (10_state.md R36). -/
def State.irqRequest (s : State) : Bool :=
  s.irqAttached && ((s.uart.idle && s.uart.idleie) || (s.uart.lineErr && s.uart.eie))

/-- The receiver accepts characters and idle conditions (10_state.md R33). -/
def Uart.receiverOn (u : Uart) : Bool := u.ue && u.re

/-- The transmitter sends (10_state.md R33). -/
def Uart.transmitterOn (u : Uart) : Bool := u.ue && u.te

/-- A transfer of the receive channel is requested (42_completion_arbiter.md R195). -/
def State.rxRequest (s : State) : Bool := s.rxdma.en && s.uart.dmar && s.uart.rxne

/-- A transfer of the transmit channel is requested (42_completion_arbiter.md R195). -/
def State.txRequest (s : State) : Bool :=
  s.txdma.en && s.uart.dmat && s.uart.txe && decide (0 < s.txdma.ndtr.toNat) && s.uart.transmitterOn

/-- `EXPIRED`, the timer's output (45_timeout_timer.md R251). -/
def State.expired (s : State) : Bool :=
  decide (s.seq = .wait) && decide (s.sig = 0) && decide (s.deadline ≤ s.now)

/-- The sleep of the timeout path is over (45_timeout_timer.md R252). -/
def State.sleepOver (s : State) : Bool := decide (s.seq = .sleep) && decide (s.sleepUntil ≤ s.now)

/-- The post is there to be taken (41_exchange_sequencer.md R170). -/
def State.posted (s : State) : Bool := decide (s.seq = .wait) && decide (0 < s.sig)

/-- `BUSY` (10_state.md R22). -/
def State.busy (s : State) : Bool := decide (s.seq ≠ .idle)

/-- Bit `k` of a register image. -/
def regBit (k : Nat) (b : Bool) : Word := if b then 1#32 <<< k else 0#32

/-- `SR` (10_state.md R31): the flags in bits 1 to 5 and 7. -/
def Uart.sr (u : Uart) : Word :=
  regBit 1 u.fe ||| regBit 2 u.ne ||| regBit 3 u.ore ||| regBit 4 u.idle ||| regBit 5 u.rxne ||| regBit 7 u.txe

/-- `CR1` (10_state.md R31). -/
def Uart.cr1 (u : Uart) : Word := regBit 2 u.re ||| regBit 3 u.te ||| regBit 4 u.idleie ||| regBit 13 u.ue

/-- `CR3` (10_state.md R31). -/
def Uart.cr3 (u : Uart) : Word := regBit 0 u.eie ||| regBit 6 u.dmar ||| regBit 7 u.dmat

/-- A write of `CR1`: unlisted bits are ignored (10_state.md R31). -/
def Uart.writeCr1 (u : Uart) (v : Word) : Uart :=
  { u with re := v.getLsbD 2, te := v.getLsbD 3, idleie := v.getLsbD 4, ue := v.getLsbD 13 }

/-- A write of `CR3`: unlisted bits are ignored (10_state.md R31). -/
def Uart.writeCr3 (u : Uart) (v : Word) : Uart :=
  { u with eie := v.getLsbD 0, dmar := v.getLsbD 6, dmat := v.getLsbD 7 }

/-- `(C + 1) mod 2^CNT_W` (00_scope.md R12, `count`). -/
def bump (w c : Nat) : Nat := (c + 1) % 2 ^ w

/-- The value of a named counter. -/
def Counters.get (c : Counters) : Counter → Nat
  | .txn => c.txn
  | .retry => c.retry
  | .timeout => c.timeout
  | .crc => c.crc
  | .dmaerr => c.dmaerr
  | .proto => c.proto
  | .uart => c.uart
  | .idle => c.idle
  | .badidle => c.badidle

/-- One counter stepped, `w` bits wide. -/
def Counters.count (c : Counters) (w : Nat) : Counter → Counters
  | .txn => { c with txn := bump w c.txn }
  | .retry => { c with retry := bump w c.retry }
  | .timeout => { c with timeout := bump w c.timeout }
  | .crc => { c with crc := bump w c.crc }
  | .dmaerr => { c with dmaerr := bump w c.dmaerr }
  | .proto => { c with proto := bump w c.proto }
  | .uart => { c with uart := bump w c.uart }
  | .idle => { c with idle := bump w c.idle }
  | .badidle => { c with badidle := bump w c.badidle }

end Sys2Proof.Machine
end

