-- ==== Sys2Proof/Machine/Ops.lean ====
section
/-! DEFINITION. The shared operations: accesses to `BUF` and to the UART data register, the cache points, the
counters, the arbiter's subroutines of 42_completion_arbiter.md (R190 to R193), and the entry to and return from a
handler. -/

namespace Sys2Proof.Machine

/-! ### The packet buffer -/

/-- The byte a memory lists at an index; `none` when the index holds no value (20_memory.md R73). -/
def Memory.read : Memory → Nat → Option Byte
  | [], _ => none
  | (k, v) :: rest, a => if k = a then some v else Memory.read rest a

/-- Write one byte, keeping the indices strictly rising. -/
def Memory.write : Memory → Nat → Byte → Memory
  | [], a, b => [(a, b)]
  | (k, v) :: rest, a, b =>
    if a < k then (a, b) :: (k, v) :: rest
    else if a = k then (a, b) :: rest
    else (k, v) :: Memory.write rest a b

/-- The canonical form: every index is above `lo` where a bound is given, and the indices rise strictly. -/
def Memory.risesFrom : Option Nat → Memory → Bool
  | _, [] => true
  | none, (k, _) :: rest => Memory.risesFrom (some k) rest
  | some lo, (k, _) :: rest => decide (lo < k) && Memory.risesFrom (some k) rest

/-- The canonical form of memory. An unlisted index holds no value, so no entry can repeat what it reads as. -/
def Memory.wf (m : Memory) : Bool := Memory.risesFrom none m

/-- A read of `BUF[i]` by the block (20_memory.md R71, R73). -/
def State.bufRead (s : State) (i : Nat) : Except Fault Byte :=
  if i < s.cfg.cap.toNat then
    match Memory.read s.mem i with
    | some b => .ok b
    | none => .error (.unwrittenBuffer i)
  else .error (.bufferRange i)

/-- A write of `BUF[i]` by the block (20_memory.md R71). -/
def State.bufWrite (s : State) (i : Nat) (b : Byte) : Except Fault State :=
  if i < s.cfg.cap.toNat then .ok { s with mem := Memory.write s.mem i b } else .error (.bufferRange i)

/-- `MemRead(i, n)`: the bytes `BUF[i] .. BUF[i+n-1]` (00_scope.md R12); the first byte without a value faults. -/
def State.memRead (s : State) : Nat → Nat → Except Fault (List Byte)
  | _, 0 => .ok []
  | i, n + 1 =>
    match s.bufRead i with
    | .error f => .error f
    | .ok b =>
      match s.memRead (i + 1) n with
      | .error f => .error f
      | .ok bs => .ok (b :: bs)

/-! ### Cache points: the block is attached to `BUF` without a cache (20_memory.md R81, R82) -/

/-- `FlushCache()`: no state change (R82). -/
def State.flushCache (s : State) : State := s

/-- `InvalidateCache()`: no state change (R82). -/
def State.invalidateCache (s : State) : State := s

/-! ### The UART data register (10_state.md R31, R32; 20_memory.md R76) -/

/-- A read of `DR`: the value of `RDR`, and `RXNE` cleared. -/
def Uart.readDr (u : Uart) : Byte × Uart := (u.rdr, { u with rxne := false })

/-- A write of `DR`: the byte goes to `TDR`, and `TXE` is cleared. -/
def Uart.writeDr (u : Uart) (b : Byte) : Uart := { u with tdr := b, txe := false }

/-! ### Counters -/

/-- `count(C)` (00_scope.md R12, 10_state.md R41). -/
def State.count (s : State) (c : Counter) : State := { s with cnt := s.cnt.count s.cfg.cntW c }

/-! ### The arbiter's subroutines -/

/-- `DrainAndClear()` (42_completion_arbiter.md R190): the byte is read only if present, the five flags are cleared. -/
def State.drainAndClear (s : State) : State :=
  let u := if s.uart.rxne then s.uart.readDr.2 else s.uart
  { s with uart := { u with rxne := false, ore := false, ne := false, fe := false, idle := false } }

/-- `StopRx()` (R191): the enable bit only. -/
def State.stopRx (s : State) : State := { s with rxdma := { s.rxdma with en := false } }

/-- `StopTx()` (R191): the enable bit only. -/
def State.stopTx (s : State) : State := { s with txdma := { s.txdma with en := false } }

/-- `DMAR <- 0 ; DMAT <- 0`: both UART DMA request lines off (R192, R193). -/
def State.requestsOff (s : State) : State := { s with uart := { s.uart with dmar := false, dmat := false } }

/-- `Abort()` (R192). -/
def State.abort (s : State) : State := s.requestsOff.stopRx.stopTx.drainAndClear

/-- The post of the completion signal (00_scope.md R15, R193). -/
def State.post (s : State) : State := { s with sig := s.sig + 1 }

/-- The overrun test of `Complete`: an overrun or a byte pending at this instant (R193 corner case (b)). -/
def Uart.overrunAtCompletion (u : Uart) : Bool := u.ore || u.rxne

/-- `Complete(st)` (R193), guarded: nothing at all is written unless the session is `Waiting`. -/
def State.complete (s : State) (st : Status) : State :=
  if s.rxstatus = .waiting then
    let bad := s.uart.overrunAtCompletion
    let s1 := if bad then s.drainAndClear else s
    let st1 := if bad then Status.err else st
    let s2 := { s1 with rxstatus := if st1 = Status.err then .completedError else .completedOk }
    s2.requestsOff.stopRx.stopTx.post
  else s

/-! ### Handlers (60_exceptions.md R309, R310) -/

/-- Entry to `DMA_CB` or `UART_IRQ`: saves nothing and changes no mode, mask or stack (R309). -/
def State.enterHandler (s : State) : State := s

/-- Return from a handler: it ends, and nothing is restored (R310). -/
def State.leaveHandler (s : State) : State := s

/-- A result of a buffer access carried into an outcome: its fault stops the operation. -/
def orFault {α : Type} (r : Except Fault α) (k : α → Host.Outcome State Fault Refusal) :
    Host.Outcome State Fault Refusal :=
  match r with
  | .error f => .fault f
  | .ok v => k v

end Sys2Proof.Machine
end

