-- ==== Sys2Proof/Machine/Crc.lean ====
section
/-! DEFINITION. The three parameter functions of 00_scope.md R10 with their reference instances, and the CRC
validator `CrcCheck` (44_crc_validator.md). -/

namespace Sys2Proof.Machine

/-- One of the eight inner steps of the reference `CRC8` (R231): generator 0x07, most significant bit first. -/
def crcBit (c : Byte) : Byte := if c.msb then (c <<< 1) ^^^ 0x07 else c <<< 1

/-- The inner loop of R231: eight steps. -/
def crcByte (c : Byte) : Byte := crcBit (crcBit (crcBit (crcBit (crcBit (crcBit (crcBit (crcBit c)))))))

/-- The reference `CRC8` from a running value (R231). -/
def crc8From (c : Byte) : List Byte → Byte
  | [] => c
  | b :: bs => crc8From (crcByte (c ^^^ b)) bs

/-- The reference instance of `CRC8` (R231): initial value 0, no final exclusive-or. -/
def crc8Ref (bs : List Byte) : Byte := crc8From 0 bs

/-- The per-byte table `T` of R231, rows 0x00 to 0x3F. -/
def crcTable0 : List Byte :=
  [0x00, 0x07, 0x0E, 0x09, 0x1C, 0x1B, 0x12, 0x15, 0x38, 0x3F, 0x36, 0x31, 0x24, 0x23, 0x2A, 0x2D,
   0x70, 0x77, 0x7E, 0x79, 0x6C, 0x6B, 0x62, 0x65, 0x48, 0x4F, 0x46, 0x41, 0x54, 0x53, 0x5A, 0x5D,
   0xE0, 0xE7, 0xEE, 0xE9, 0xFC, 0xFB, 0xF2, 0xF5, 0xD8, 0xDF, 0xD6, 0xD1, 0xC4, 0xC3, 0xCA, 0xCD,
   0x90, 0x97, 0x9E, 0x99, 0x8C, 0x8B, 0x82, 0x85, 0xA8, 0xAF, 0xA6, 0xA1, 0xB4, 0xB3, 0xBA, 0xBD]

/-- `T`, rows 0x40 to 0x7F. -/
def crcTable1 : List Byte :=
  [0xC7, 0xC0, 0xC9, 0xCE, 0xDB, 0xDC, 0xD5, 0xD2, 0xFF, 0xF8, 0xF1, 0xF6, 0xE3, 0xE4, 0xED, 0xEA,
   0xB7, 0xB0, 0xB9, 0xBE, 0xAB, 0xAC, 0xA5, 0xA2, 0x8F, 0x88, 0x81, 0x86, 0x93, 0x94, 0x9D, 0x9A,
   0x27, 0x20, 0x29, 0x2E, 0x3B, 0x3C, 0x35, 0x32, 0x1F, 0x18, 0x11, 0x16, 0x03, 0x04, 0x0D, 0x0A,
   0x57, 0x50, 0x59, 0x5E, 0x4B, 0x4C, 0x45, 0x42, 0x6F, 0x68, 0x61, 0x66, 0x73, 0x74, 0x7D, 0x7A]

/-- `T`, rows 0x80 to 0xBF. -/
def crcTable2 : List Byte :=
  [0x89, 0x8E, 0x87, 0x80, 0x95, 0x92, 0x9B, 0x9C, 0xB1, 0xB6, 0xBF, 0xB8, 0xAD, 0xAA, 0xA3, 0xA4,
   0xF9, 0xFE, 0xF7, 0xF0, 0xE5, 0xE2, 0xEB, 0xEC, 0xC1, 0xC6, 0xCF, 0xC8, 0xDD, 0xDA, 0xD3, 0xD4,
   0x69, 0x6E, 0x67, 0x60, 0x75, 0x72, 0x7B, 0x7C, 0x51, 0x56, 0x5F, 0x58, 0x4D, 0x4A, 0x43, 0x44,
   0x19, 0x1E, 0x17, 0x10, 0x05, 0x02, 0x0B, 0x0C, 0x21, 0x26, 0x2F, 0x28, 0x3D, 0x3A, 0x33, 0x34]

/-- `T`, rows 0xC0 to 0xFF. -/
def crcTable3 : List Byte :=
  [0x4E, 0x49, 0x40, 0x47, 0x52, 0x55, 0x5C, 0x5B, 0x76, 0x71, 0x78, 0x7F, 0x6A, 0x6D, 0x64, 0x63,
   0x3E, 0x39, 0x30, 0x37, 0x22, 0x25, 0x2C, 0x2B, 0x06, 0x01, 0x08, 0x0F, 0x1A, 0x1D, 0x14, 0x13,
   0xAE, 0xA9, 0xA0, 0xA7, 0xB2, 0xB5, 0xBC, 0xBB, 0x96, 0x91, 0x98, 0x9F, 0x8A, 0x8D, 0x84, 0x83,
   0xDE, 0xD9, 0xD0, 0xD7, 0xC2, 0xC5, 0xCC, 0xCB, 0xE6, 0xE1, 0xE8, 0xEF, 0xFA, 0xFD, 0xF4, 0xF3]

/-- The whole table of R231. -/
def crcTable : List Byte := crcTable0 ++ crcTable1 ++ crcTable2 ++ crcTable3

/-- `T[i]`. -/
def crcTableAt (i : Byte) : Byte := crcTable.getD i.toNat 0

/-- The table-driven form of R231: `c <- T[c xor b]` for each byte. -/
def crc8Table (bs : List Byte) : Byte := bs.foldl (fun c b => crcTableAt (c ^^^ b)) 0

/-- The reference instance of `IS_CORRUPT` (30_encoding.md R102, R233). -/
def isCorruptRef (code : Byte) : Bool := code &&& 0xC0 == 0x40

/-- The reference instance of `FRAME_LEN` (30_encoding.md R101): bytes 0 and 1, little-endian. -/
def frameLenRef (b0 b1 : Byte) : Nat := b0.toNat + 256 * b1.toNat

/-- `CRC8` of the machine (00_scope.md R10). -/
def State.crc8 (s : State) (bs : List Byte) : Byte :=
  match s.cfg.crc8 with
  | .reference => crc8Ref bs
  | .other k => Config.openCrc8 k bs

/-- `IS_CORRUPT` of the machine (00_scope.md R10). -/
def State.isCorrupt (s : State) (code : Byte) : Bool :=
  match s.cfg.isCorrupt with
  | .reference => isCorruptRef code
  | .other k => Config.openIsCorrupt k code

/-- `FRAME_LEN(BUF)`: it reads header bytes only (00_scope.md R9), 0 and 1 in the reference instance
(20_memory.md R72), all three in any other (assumption log 2). They are read in rising order, which decides the index a
fault names when several hold no value: the spec gives no order (DESIGN CHOICE, assumption log 21). -/
def State.frameLen (s : State) : Except Fault Nat :=
  match s.bufRead 0 with
  | .error f => .error f
  | .ok b0 =>
    match s.bufRead 1 with
    | .error f => .error f
    | .ok b1 =>
      match s.cfg.frameLen with
      | .reference => .ok (frameLenRef b0 b1)
      | .other k =>
        match s.bufRead 2 with
        | .error f => .error f
        | .ok b2 => .ok (Config.openFrameLen k b0 b1 b2)

/-- The validator's two verdicts (R230). -/
inductive Verdict where
  | good
  | bad
deriving DecidableEq, Repr

/-- The last two tests of `CrcCheck` (R234), on the stored checksum, the bytes before it and the code byte. -/
def State.verdict (s : State) (stored : Byte) (front : List Byte) (code : Byte) : Verdict :=
  if stored = s.crc8 (front ++ [0x00]) then (if s.isCorrupt code then .bad else .good) else .bad

/-- `CrcCheck(BUF)` (R234); it writes nothing (R235). The byte at the checksum position is read first, then the
bytes before it in order (assumption log 11). -/
def State.crcCheck (s : State) : Except Fault Verdict :=
  match s.frameLen with
  | .error f => .error f
  | .ok len =>
    if len < minFrame || s.cfg.cap.toNat < len then .ok .bad
    else
      match s.bufRead (len - 1) with
      | .error f => .error f
      | .ok stored =>
        match s.memRead 0 (len - 1) with
        | .error f => .error f
        | .ok front => .ok (s.verdict stored front (front.getD 2 0))

end Sys2Proof.Machine
end

