-- ==== Sys2Proof/Machine/Operands.lean ====
section
/-! DEFINITION. Operands and views: the buffer index of a DMA transfer, the measured length, the enumeration codes of
30_encoding.md R105, the register images of 10_state.md R31, the observation registers of R47, the lifecycle modes
of 60_exceptions.md R312, and the effects on a DMA record that a transfer has. -/

namespace Sys2Proof.Machine

/-! ### Buffer indices and lengths -/

/-- The index a receive transfer stores to: `RXDMA.LEN - RXDMA.NDTR`, 16 bits (46_platform_agents.md R272). -/
def State.rxIndex (s : State) : Nat := (s.rxdma.len - s.rxdma.ndtr).toNat

/-- The index a transmit transfer reads: `TXDMA.LEN - TXDMA.NDTR`, 16 bits (46_platform_agents.md R273). -/
def State.txIndex (s : State) : Nat := (s.txdma.len - s.txdma.ndtr).toNat

/-- The measured length: `CAP - RXDMA.NDTR`, 16 bits unsigned (43_status_interrupt_detectors.md R216). -/
def State.measuredLen (s : State) : Half := s.cfg.cap - s.rxdma.ndtr

/-! ### What a transfer does to its channel -/

/-- The receive channel after one byte has been moved (46_platform_agents.md R272): the count steps down; at the
programmed length the completion event is raised once, and a circular channel reloads while another stops. -/
def State.rxAdvance (s : State) : State :=
  let n := s.rxdma.ndtr - 1
  if n = 0 then
    let pend := if s.rxdma.cb && decide (s.cbpend = none) then some false else s.cbpend
    if s.rxdma.circ then { s with cbpend := pend, rxdma := { s.rxdma with ndtr := s.rxdma.len } }
    else { s with cbpend := pend, rxdma := { s.rxdma with ndtr := 0, en := false } }
  else { s with rxdma := { s.rxdma with ndtr := n } }

/-- The transmit channel after one byte has been moved (46_platform_agents.md R273): not circular, it stops by
itself at the programmed length. -/
def State.txAdvance (s : State) : State :=
  let n := s.txdma.ndtr - 1
  { s with txdma := { s.txdma with ndtr := n, en := if n = 0 then false else s.txdma.en } }

/-! ### Codes of the enumerations (30_encoding.md R105) -/

/-- The code of `SEQ` (10_state.md R22). -/
def Seq.code : Seq → Nat
  | .idle => 0
  | .s1 => 1
  | .s2 => 2
  | .s3 => 3
  | .s4 => 4
  | .s5 => 5
  | .s6 => 6
  | .s7 => 7
  | .s8 => 8
  | .s9 => 9
  | .s10 => 10
  | .wait => 11
  | .sleep => 12
  | .s11 => 13
  | .s12 => 14
  | .s13 => 15

/-- The code of `RXSTATUS` (R23). -/
def RxStatus.code : RxStatus → Nat
  | .inactive => 0
  | .waiting => 1
  | .completedOk => 2
  | .completedError => 3

/-- The code of `OUTCOME` (R27). -/
def ExOutcome.code : ExOutcome → Nat
  | .none => 0
  | .pending => 1
  | .success => 2
  | .timeout => 3
  | .protocolError => 4

/-- The code of `RESULT` (R28). -/
def Result.code : Result → Nat
  | .success => 0
  | .timeout => 1
  | .protocolError => 2

/-- The code of `INIT_RESULT` (R28). -/
def InitResult.code : InitResult → Nat
  | .notRun => 0
  | .ok => 1
  | .resourceExhausted => 2

/-- The code of a completion status (R105). -/
def Status.code : Status → Nat
  | .ok => 0
  | .err => 1

/-- The status a `derr` bit reports (42_completion_arbiter.md R194). -/
def Status.ofDerr (derr : Bool) : Status := if derr then .err else .ok

/-- The member of `RESULT` with a code (R28). -/
def Result.ofCode (c : Fin 3) : Result :=
  if c = 0 then .success else if c = 1 then .timeout else .protocolError

/-! ### Views -/

/-- A bit of a view as a number. -/
def viewBit (k : Nat) (b : Bool) : Nat := if b then 2 ^ k else 0

/-- `STAT`, observation register 0 (R47). -/
def State.stat (s : State) : Nat :=
  viewBit 0 s.inited + viewBit 1 s.busy + viewBit 2 s.crit + 2 ^ 3 * s.rxstatus.code + viewBit 5 s.resultValid +
    viewBit 6 s.perfActive

/-- The observation registers (R47), all read-only; `none` beyond number 18. -/
def State.observe (s : State) : Nat → Option Nat
  | 0 => some s.stat
  | 1 => some s.seq.code
  | 2 => some (s.result.code + 2 ^ 2 * s.initResult.code)
  | 3 => some s.sig
  | 4 => some s.deadline.toNat
  | 5 => some s.sleepUntil.toNat
  | 6 => some s.txlen.toNat
  | 7 => some s.rxlen.toNat
  | 8 => some s.perfT0.toNat
  | 9 => some s.durLast.toNat
  | 10 => some s.cnt.txn
  | 11 => some s.cnt.retry
  | 12 => some s.cnt.timeout
  | 13 => some s.cnt.crc
  | 14 => some s.cnt.dmaerr
  | 15 => some s.cnt.proto
  | 16 => some s.cnt.uart
  | 17 => some s.cnt.idle
  | 18 => some s.cnt.badidle
  | _ => none

/-- The UART register image at an offset (10_state.md R31). `DR` shows `RDR`; the effect of a read is `Uart.readDr`. -/
def Uart.reg (u : Uart) : Nat → Option Word
  | 0x00 => some u.sr
  | 0x04 => some (u.rdr.setWidth 32)
  | 0x08 => some (u.brr.setWidth 32)
  | 0x0C => some u.cr1
  | 0x10 => some u.cr2
  | 0x14 => some u.cr3
  | _ => none

/-- The lifecycle modes (60_exceptions.md R312). -/
inductive Mode where
  | uninitialised
  | ready
  | busy
deriving DecidableEq, Repr

/-- The mode of a state (R312). -/
def State.mode (s : State) : Mode :=
  if s.busy then .busy else if s.inited then .ready else .uninitialised

/-- A working register by its number (10_state.md R24); there are six. -/
def State.working (s : State) : Nat → Option Nat
  | 0 => some s.deadline.toNat
  | 1 => some s.sleepUntil.toNat
  | 2 => some s.txlen.toNat
  | 3 => some s.rxlen.toNat
  | 4 => some s.perfT0.toNat
  | 5 => some s.durLast.toNat
  | _ => none

end Sys2Proof.Machine
end

