-- ==== Sys2Proof/Machine/Arbiter.lean ====
section
/-! DEFINITION. The arbiter event `DMA_CB` (42_completion_arbiter.md R194) and the status interrupt `UART_IRQ` with
its two detectors (43_status_interrupt_detectors.md R210 to R216). -/

namespace Sys2Proof.Machine

/-- `DMA_CB derr` (R194): the pending event is consumed whether or not `Complete` accepts it. -/
def execDmaCb (derr : Bool) (s : State) : Host.Outcome State Fault Refusal :=
  if s.cbpend = some derr then
    let s1 := { s.enterHandler with cbpend := none }
    .next (s1.complete (Status.ofDerr derr)).leaveHandler
  else .refused (.notEnabled (.dmaCb derr))

/-- The line error detector (R212), on a state whose flags are cleared: the event is counted in both cases; a waiting
session is aborted and completed with an error. -/
def State.lineError (s : State) : State :=
  let s1 := s.count .uart
  if s1.rxstatus = .waiting then s1.abort.complete .err else s1

/-- A malformed short reception (R213). -/
def State.malformed (s : State) : State := (s.count .badidle).stopRx.complete .err

/-- A valid short packet (R213). -/
def State.validShort (s : State) : State := (s.count .idle).stopRx.complete .ok

/-- The frame boundary detector (R213, R214), on a state whose flags are cleared. The declared length is read only
when the measured length is at least 1 (assumption log 10). -/
def State.frameBoundary (s : State) : Host.Outcome State Fault Refusal :=
  if s.rxstatus = .waiting then
    let s1 := s.invalidateCache
    let len := s1.measuredLen
    let s2 := { s1 with rxlen := len }
    if len.toNat < 1 then .next s2.malformed
    else orFault s2.frameLen fun declared => .next (if len.toNat < declared then s2.malformed else s2.validShort)
  else .next s

/-- `UART_IRQ` (R210): the tests are made on the snapshot of the flags taken at entry, before the clearing. -/
def execUartIrq (s : State) : Host.Outcome State Fault Refusal :=
  if s.irqRequest then
    let sr := s.enterHandler.uart
    let s1 := s.enterHandler.drainAndClear
    if sr.lineErr then .next s1.lineError.leaveHandler
    else if sr.idle then s1.frameBoundary
    else .next s1.leaveHandler
  else .refused (.notEnabled .uartIrq)

end Sys2Proof.Machine
end

