-- ==== Sys2Proof/Machine/HostCommands.lean ====
section
/-! DEFINITION. The host commands (40_host_commands.md): `INIT`, `EXCHANGE`, `BUFWR`, `BUFRD`, `DIAG`. -/

namespace Sys2Proof.Machine

/-- `INIT` when both channels are granted (R140), in the rule's order. -/
def State.initDone (s : State) : State :=
  let u := { s.uart.writeCr1 0 with cr2 := 0 }
  let s1 := State.drainAndClear { s with uart := u.writeCr3 0 }
  let s2 := { s1 with uart := { s1.uart with brr := s.cfg.brrValue }, irqAttached := true }
  let s3 := { s2 with uart := { s2.uart with eie := true } }
  let s4 := { s3 with uart := { s3.uart with ue := true, te := true, re := true, idleie := true } }
  { s4 with sig := 0, inited := true, initResult := .ok }

/-- `INIT` (R140): the acquisition of the channels is tested first; a failure writes `INIT_RESULT` only. Otherwise
issued, it is a caller error (R147). -/
def execInit (s : State) : Host.Outcome State Fault Refusal :=
  if s.inited = false ∧ s.seq = .idle then
    if s.cfg.rxchAvail && s.cfg.txchAvail then .next s.initDone
    else .next { s with initResult := .resourceExhausted }
  else .refused .callerError

/-- `EXCHANGE` (R142). The precondition on `BUF` is no guard. -/
def execExchange (s : State) : Host.Outcome State Fault Refusal :=
  if s.inited = true ∧ s.seq = .idle then .next { s with resultValid := false, outcome := .none, seq := .s1 }
  else .refused .callerError

/-- `BUFWR a, d` (R144): the host may write while `SEQ = IDLE`, also before `INIT`. -/
def execBufwr (a : Half) (d : Byte) (s : State) : Host.Outcome State Fault Refusal :=
  if s.seq = .idle ∧ a.toNat < s.cfg.cap.toNat then orFault (s.bufWrite a.toNat d) fun t => .next t
  else .refused .callerError

/-- `BUFRD a` (R145): the byte is returned to the host, by the model's output `hostOut` (assumption log 6); the state
of the block does not change. -/
def execBufrd (a : Half) (s : State) : Host.Outcome State Fault Refusal :=
  if s.seq = .idle ∧ a.toNat < s.cfg.cap.toNat then
    orFault (s.bufRead a.toNat) fun b => .next { s with hostOut := s.hostOut ++ [b] }
  else .refused .callerError

/-- `DIAG` (R146): never enabled; the source gives it no semantics. -/
def execDiag (_s : State) : Host.Outcome State Fault Refusal := .refused .diagNotModelled

end Sys2Proof.Machine
end

