-- ==== Sys2Proof/Machine/Platform.lean ====
section
/-! DEFINITION. The platform agents (46_platform_agents.md R270 to R275) and the clock's `TICK`
(45_timeout_timer.md R254). -/

namespace Sys2Proof.Machine

/-- The UART after one character has been delivered (R270): on overrun the earlier byte is kept; the flags are sticky. -/
def Uart.receive (u : Uart) (b : Byte) (ne fe : Bool) : Uart :=
  let u1 := if u.rxne then { u with ore := true } else { u with rdr := b, rxne := true }
  { u1 with ne := u.ne || ne, fe := u.fe || fe }

/-- `LINE_RX b, ne, fe` (R270). -/
def execLineRx (b : Byte) (ne fe : Bool) (s : State) : Host.Outcome State Fault Refusal :=
  if s.uart.receiverOn then .next { s with uart := s.uart.receive b ne fe }
  else .refused (.notEnabled (.lineRx b ne fe))

/-- `LINE_IDLE` (R271). -/
def execLineIdle (s : State) : Host.Outcome State Fault Refusal :=
  if s.uart.receiverOn then .next { s with uart := { s.uart with idle := true } }
  else .refused (.notEnabled .lineIdle)

/-- `DMA_RX_XFER` (R272): one byte from the UART data register to the buffer. -/
def execDmaRxXfer (s : State) : Host.Outcome State Fault Refusal :=
  if s.rxRequest then
    let dr := s.uart.readDr
    orFault (s.bufWrite s.rxIndex dr.1) fun s1 => .next (State.rxAdvance { s1 with uart := dr.2 })
  else .refused (.notEnabled .dmaRxXfer)

/-- `DMA_FAULT` (R275): the receive channel disables itself and raises an error event, which overrides a pending
success. -/
def execDmaFault (s : State) : Host.Outcome State Fault Refusal :=
  if s.rxdma.en then .next { s.stopRx with cbpend := some true } else .refused (.notEnabled .dmaFault)

/-- `DMA_TX_XFER` (R273): one byte from the buffer, as it is now, to the UART data register. -/
def execDmaTxXfer (s : State) : Host.Outcome State Fault Refusal :=
  if s.txRequest then
    orFault (s.bufRead s.txIndex) fun b => .next (State.txAdvance { s with uart := s.uart.writeDr b })
  else .refused (.notEnabled .dmaTxXfer)

/-- `LINE_TX` (R274): the byte in the holding register goes on the line. -/
def execLineTx (s : State) : Host.Outcome State Fault Refusal :=
  if s.uart.txe = false ∧ s.uart.transmitterOn then
    .next { s with txout := s.txout ++ [s.uart.tdr], uart := { s.uart with txe := true } }
  else .refused (.notEnabled .lineTx)

/-- `TICK d` (R254): always enabled; the addition is modulo 2^64 (R253, assumption log 12). -/
def execTick (d : Time) (s : State) : Host.Outcome State Fault Refusal := .next { s with now := s.now + d }

end Sys2Proof.Machine
end

