-- ==== Sys2Proof/Machine/Sequencer.lean ====
section
/-! DEFINITION. The exchange sequencer (41_exchange_sequencer.md R160 to R175): one definition per step. A step whose
guard is false has no step of the machine: it is refused as not enabled. -/

namespace Sys2Proof.Machine

/-- `XS1` (R160): the duration sample starts; recording the one buffer changes no state. -/
def execXs1 (s : State) : Host.Outcome State Fault Refusal :=
  if s.seq = .s1 then .next { s with perfT0 := s.now, perfActive := true, seq := .s2 }
  else .refused (.notEnabled .xs1)

/-- `XS2` (R161): drain and clear. -/
def execXs2 (s : State) : Host.Outcome State Fault Refusal :=
  if s.seq = .s2 then .next { s.drainAndClear with seq := .s3 } else .refused (.notEnabled .xs2)

/-- `XS3` (R162): the session becomes `Waiting`. -/
def execXs3 (s : State) : Host.Outcome State Fault Refusal :=
  if s.seq = .s3 then .next { s with rxstatus := .waiting, seq := .s4 } else .refused (.notEnabled .xs3)

/-- `XS4` (R163): the receive channel is programmed over the whole buffer and a stale completion event is discarded;
`EN` and `CB` are not changed. -/
def execXs4 (s : State) : Host.Outcome State Fault Refusal :=
  if s.seq = .s4 then
    .next { s with
      rxdma := { s.rxdma with circ := true, len := s.cfg.cap, ndtr := s.cfg.cap }, cbpend := none, seq := .s5 }
  else .refused (.notEnabled .xs4)

/-- `XS5` (R164): UART-side reception, callback, channel start. -/
def execXs5 (s : State) : Host.Outcome State Fault Refusal :=
  if s.seq = .s5 then
    .next { s with
      uart := { s.uart with dmar := true }, rxdma := { s.rxdma with cb := true, en := true }, seq := .s6 }
  else .refused (.notEnabled .xs5)

/-- `XS6` (R165): the cache flush, no state change here. -/
def execXs6 (s : State) : Host.Outcome State Fault Refusal :=
  if s.seq = .s6 then .next { s.flushCache with seq := .s7 } else .refused (.notEnabled .xs6)

/-- `XS7` (R166): the transmit channel is programmed with the length the header declares at this moment. -/
def execXs7 (s : State) : Host.Outcome State Fault Refusal :=
  if s.seq = .s7 then
    orFault s.frameLen fun len =>
      if len < 1 ∨ s.cfg.cap.toNat < len then .fault (.txLenOutOfRange len)
      else
        let n := BitVec.ofNat 16 len
        .next { s with txlen := n, txdma := { s.txdma with len := n, ndtr := n }, seq := .s8 }
  else .refused (.notEnabled .xs7)

/-- `XS8` (R167): UART-side transmission and channel start, without a look at `RXSTATUS`. -/
def execXs8 (s : State) : Host.Outcome State Fault Refusal :=
  if s.seq = .s8 then
    .next { s with uart := { s.uart with dmat := true }, txdma := { s.txdma with en := true }, seq := .s9 }
  else .refused (.notEnabled .xs8)

/-- `XS9` (R168): the absolute deadline, modulo 2^64 (assumption log 12). -/
def execXs9 (s : State) : Host.Outcome State Fault Refusal :=
  if s.seq = .s9 then .next { s with deadline := s.now + timeoutTicks, seq := .s10 }
  else .refused (.notEnabled .xs9)

/-- `XS10E` (R169): the critical section is entered. -/
def execXs10e (s : State) : Host.Outcome State Fault Refusal :=
  if s.seq = .s10 then .next { s with crit := true, seq := .wait } else .refused (.notEnabled .xs10e)

/-- `XS10P` (R170): the wait ends by a post; every error status counts one DMA-error event. -/
def execXs10p (s : State) : Host.Outcome State Fault Refusal :=
  if s.posted then
    let s1 := { s with sig := s.sig - 1, seq := .s11 }
    if s.rxstatus = .completedError then .next { s1.count .dmaerr with outcome := .protocolError }
    else .next { s1 with outcome := .pending }
  else .refused (.notEnabled .xs10p)

/-- `XS10T` (R171): the wait ends by the deadline; the abort and the reset of `RXSTATUS` are one step, and nothing is
posted. -/
def execXs10t (s : State) : Host.Outcome State Fault Refusal :=
  if s.expired then
    .next { s.abort with rxstatus := .inactive, sleepUntil := s.now + s.cfg.sleepTicks, seq := .sleep }
  else .refused (.notEnabled .xs10t)

/-- `XS10S` (R172): the sleep is over; the timeout is counted and the duration sample cancelled. -/
def execXs10s (s : State) : Host.Outcome State Fault Refusal :=
  if s.sleepOver then
    .next { s.count .timeout with perfActive := false, outcome := .timeout, seq := .s11 }
  else .refused (.notEnabled .xs10s)

/-- `XS11` (R173): the critical section is left, `RXSTATUS` reset. -/
def execXs11 (s : State) : Host.Outcome State Fault Refusal :=
  if s.seq = .s11 then .next { s with crit := false, rxstatus := .inactive, seq := .s12 }
  else .refused (.notEnabled .xs11)

/-- What `XS12` makes of a verdict (R174). -/
def State.judged (s : State) : Verdict → State
  | .good => { s with outcome := .success }
  | .bad => { s.count .crc with outcome := .protocolError }

/-- `XS12` (R174): the CRC validator, on a non-error wake only. -/
def execXs12 (s : State) : Host.Outcome State Fault Refusal :=
  if s.seq = .s12 then
    if s.outcome = .pending then orFault s.crcCheck fun v => .next { s.judged v with seq := .s13 }
    else .next { s with seq := .s13 }
  else .refused (.notEnabled .xs12)

/-- `RESULT <- OUTCOME` (R175). `None` and `Pending` never reach `XS13` in a run; the spec states no result for
them, so there the value is free (assumption log 9). -/
def State.publish (s : State) : State :=
  match s.outcome with
  | .success => { s with result := .success }
  | .timeout => { s with result := .timeout }
  | .protocolError => { s with result := .protocolError }
  | .none => { s with result := Result.ofCode (Config.freeResultCode s.free), free := s.free + 1 }
  | .pending => { s with result := Result.ofCode (Config.freeResultCode s.free), free := s.free + 1 }

/-- The duration sample of `XS13`, recorded only while one is open (R175). -/
def State.emitSample (s : State) : State :=
  if s.perfActive then { s.count .txn with durLast := s.now - s.perfT0, perfActive := false } else s

/-- `XS13` (R175): the sample, the result and the return to the caller. -/
def execXs13 (s : State) : Host.Outcome State Fault Refusal :=
  if s.seq = .s13 then .next { s.emitSample.publish with resultValid := true, seq := .idle }
  else .refused (.notEnabled .xs13)

end Sys2Proof.Machine
end

