-- ==== Sys2Proof/Machine/Dispatch.lean ====
section
/-! DEFINITION. The meaning of each operation: one arm per constructor of Instr. -/

namespace Sys2Proof.Machine

def exec (i : Instr) (s : State) : Host.Outcome State Fault Refusal :=
  match i with
  | .init => Sys2Proof.Machine.execInit s
  | .exchange => Sys2Proof.Machine.execExchange s
  | .bufwr a d => Sys2Proof.Machine.execBufwr a d s
  | .bufrd a => Sys2Proof.Machine.execBufrd a s
  | .diag => Sys2Proof.Machine.execDiag s
  | .xs1 => Sys2Proof.Machine.execXs1 s
  | .xs2 => Sys2Proof.Machine.execXs2 s
  | .xs3 => Sys2Proof.Machine.execXs3 s
  | .xs4 => Sys2Proof.Machine.execXs4 s
  | .xs5 => Sys2Proof.Machine.execXs5 s
  | .xs6 => Sys2Proof.Machine.execXs6 s
  | .xs7 => Sys2Proof.Machine.execXs7 s
  | .xs8 => Sys2Proof.Machine.execXs8 s
  | .xs9 => Sys2Proof.Machine.execXs9 s
  | .xs10e => Sys2Proof.Machine.execXs10e s
  | .xs10p => Sys2Proof.Machine.execXs10p s
  | .xs10t => Sys2Proof.Machine.execXs10t s
  | .xs10s => Sys2Proof.Machine.execXs10s s
  | .xs11 => Sys2Proof.Machine.execXs11 s
  | .xs12 => Sys2Proof.Machine.execXs12 s
  | .xs13 => Sys2Proof.Machine.execXs13 s
  | .dmaCb derr => Sys2Proof.Machine.execDmaCb derr s
  | .uartIrq => Sys2Proof.Machine.execUartIrq s
  | .lineRx b ne fe => Sys2Proof.Machine.execLineRx b ne fe s
  | .lineIdle => Sys2Proof.Machine.execLineIdle s
  | .lineTx => Sys2Proof.Machine.execLineTx s
  | .dmaRxXfer => Sys2Proof.Machine.execDmaRxXfer s
  | .dmaTxXfer => Sys2Proof.Machine.execDmaTxXfer s
  | .dmaFault => Sys2Proof.Machine.execDmaFault s
  | .tick d => Sys2Proof.Machine.execTick d s

end Sys2Proof.Machine
end

