-- ==== Sys2Proof/Machine/Step.lean ====
section
/-! DEFINITION. One step: the next operation word of the trace (30_encoding.md R110) is decoded, taken off the trace,
and run. -/

namespace Sys2Proof.Machine

/-- One step. With no word left no operation is issued and nothing happens (70_reset_and_hazards.md R341; assumption
log 5); a trace with an illegal or truncated word is refused (30_encoding.md R115). -/
def step (s : State) : Host.Outcome State Fault Refusal :=
  match decode s.trace with
  | .endOfTrace => .next s
  | .illegalOpcode _ => .refused .illegalWord
  | .truncated _ => .refused .illegalWord
  | .word i rest => exec i { s with trace := rest }

/-- The state with one table word placed where `step` takes its next operation word, before what the trace holds. -/
def State.withFetchWord (s : State) (nbits w : Nat) : State :=
  { s with trace := tableWordBytes nbits w ++ s.trace }

end Sys2Proof.Machine
end

