-- ==== Sys2Proof/Machine/Assembler.lean ====
section
/-! DEFINITION. The assembler notation of traces (30_encoding.md R117, R118): the pseudo-operations with their
expansions, and the text syntax, one operation per line. They exist only in the assembler; the machine never sees
them. Details of the text that the spec leaves open are in assumption log 19. -/

namespace Sys2Proof.Machine

/-! ### Pseudo-operations (R118) -/

/-- `LOAD a, b0, ..., bn`: one `BUFWR` for each byte. -/
def asmLoad (a : Nat) : List Byte → List Instr
  | [] => []
  | b :: bs => .bufwr (BitVec.ofNat 16 a) b :: asmLoad (a + 1) bs

/-- `SETUP`: the ten setup steps. -/
def asmSetup : List Instr := [.xs1, .xs2, .xs3, .xs4, .xs5, .xs6, .xs7, .xs8, .xs9, .xs10e]

/-- `TXB`: one byte out. -/
def asmTxb : List Instr := [.dmaTxXfer, .lineTx]

/-- `SEND n`: `TXB` n times. -/
def asmSend : Nat → List Instr
  | 0 => []
  | n + 1 => asmTxb ++ asmSend n

/-- `RXB b`: one clean byte in. -/
def asmRxb (b : Byte) : List Instr := [.lineRx b false false, .dmaRxXfer]

/-- The `RXB`s of a reply. -/
def asmRxbs : List Byte → List Instr
  | [] => []
  | b :: bs => asmRxb b ++ asmRxbs bs

/-- `REPLY b0, ..., bn`: the bytes, the idle line and the status interrupt. -/
def asmReply (bs : List Byte) : List Instr := asmRxbs bs ++ [.lineIdle, .uartIrq]

/-- `FINISH`: the last three steps. -/
def asmFinish : List Instr := [.xs11, .xs12, .xs13]

/-! ### Text (R117) -/

/-- The value of a digit in base 16, if it is one. -/
def digitOf (c : Char) : Option Nat :=
  let n := c.toNat
  if 48 ≤ n ∧ n ≤ 57 then some (n - 48)
  else if 97 ≤ n ∧ n ≤ 102 then some (n - 87)
  else if 65 ≤ n ∧ n ≤ 70 then some (n - 55)
  else none

/-- Digits in a base, most significant first. -/
def digitsFrom (base acc : Nat) : List Char → Option Nat
  | [] => some acc
  | c :: cs =>
    match digitOf c with
    | none => none
    | some d => if d < base then digitsFrom base (base * acc + d) cs else none

/-- A number, decimal or `0x` hexadecimal. -/
def parseNumber : List Char → Option Nat
  | [] => none
  | '0' :: 'x' :: c :: cs => digitsFrom 16 0 (c :: cs)
  | c :: cs => digitsFrom 10 0 (c :: cs)

/-- The words of a line: separated by commas or spaces, up to a `#`. -/
def tokensFrom (cur : List Char) : List Char → List (List Char)
  | [] => if cur = [] then [] else [cur.reverse]
  | c :: cs =>
    if c = '#' then (if cur = [] then [] else [cur.reverse])
    else if c = ' ' ∨ c = ',' ∨ c = '\t' then
      (if cur = [] then tokensFrom [] cs else cur.reverse :: tokensFrom [] cs)
    else tokensFrom (c :: cur) cs

/-- All the numbers of a line's operands, or none if one is no number. -/
def parseNumbers : List (List Char) → Option (List Nat)
  | [] => some []
  | t :: ts =>
    match parseNumber t, parseNumbers ts with
    | some n, some ns => some (n :: ns)
    | _, _ => none

/-- The operands as bytes, if each is below 256. -/
def asBytes (ns : List Nat) : Option (List Byte) :=
  if ns.all (fun n => decide (n < 256)) then some (ns.map (BitVec.ofNat 8)) else none

/-- A flag operand. -/
def asFlag (n : Nat) : Option Bool := if n = 0 then some false else if n = 1 then some true else none

/-- The operations without operands, by mnemonic (R113), and the pseudo-operations without operands. -/
def plainOps : List (String × List Instr) :=
  [("INIT", [.init]), ("EXCHANGE", [.exchange]), ("DIAG", [.diag]), ("XS1", [.xs1]), ("XS2", [.xs2]),
   ("XS3", [.xs3]), ("XS4", [.xs4]), ("XS5", [.xs5]), ("XS6", [.xs6]), ("XS7", [.xs7]), ("XS8", [.xs8]),
   ("XS9", [.xs9]), ("XS10E", [.xs10e]), ("XS10P", [.xs10p]), ("XS10T", [.xs10t]), ("XS10S", [.xs10s]),
   ("XS11", [.xs11]), ("XS12", [.xs12]), ("XS13", [.xs13]), ("UART_IRQ", [.uartIrq]), ("LINE_IDLE", [.lineIdle]),
   ("LINE_TX", [.lineTx]), ("DMA_RX_XFER", [.dmaRxXfer]), ("DMA_TX_XFER", [.dmaTxXfer]),
   ("DMA_FAULT", [.dmaFault]), ("SETUP", asmSetup), ("TXB", asmTxb), ("FINISH", asmFinish)]

/-- The operations with operands. A word can hold an index below 256 only (R112). -/
def operandOps (m : List Char) (ns : List Nat) : Option (List Instr) :=
  if m = "BUFWR".toList then
    match asBytes ns with
    | some [a, d] => some [.bufwr (indexOperand a) d]
    | _ => none
  else if m = "BUFRD".toList then
    match asBytes ns with
    | some [a] => some [.bufrd (indexOperand a)]
    | _ => none
  else if m = "DMA_CB".toList then
    match ns with
    | [e] => (asFlag e).map fun b => [.dmaCb b]
    | _ => none
  else if m = "LINE_RX".toList then
    match ns with
    | [b] => (asBytes [b]).map fun bs => [.lineRx (bs.getD 0 0) false false]
    | [b, ne, fe] =>
      match asBytes [b], asFlag ne, asFlag fe with
      | some bs, some n, some f => some [.lineRx (bs.getD 0 0) n f]
      | _, _, _ => none
    | _ => none
  else if m = "TICK".toList then
    match ns with
    | [d] => if d < 65536 then some [.tick (BitVec.ofNat 64 d)] else none
    | _ => none
  else if m = "LOAD".toList then
    match ns with
    | a :: b :: rest => if a + rest.length < 256 then (asBytes (b :: rest)).map (asmLoad a) else none
    | _ => none
  else if m = "SEND".toList then
    match ns with
    | [n] => some (asmSend n)
    | _ => none
  else if m = "RXB".toList then
    match asBytes ns with
    | some [b] => some (asmRxb b)
    | _ => none
  else if m = "REPLY".toList then
    match ns with
    | b :: rest => (asBytes (b :: rest)).map asmReply
    | [] => none
  else none

/-- The operations one line stands for; an empty or comment line stands for none. -/
def assembleLine (line : List Char) : Option (List Instr) :=
  match tokensFrom [] line with
  | [] => some []
  | m :: args =>
    match args, plainOps.find? (fun p => m == p.1.toList) with
    | [], some p => some p.2
    | _, some _ => none
    | _, none =>
      match parseNumbers args with
      | some ns => operandOps m ns
      | none => none

/-- The lines of a text. -/
def linesFrom (cur : List Char) : List Char → List (List Char)
  | [] => [cur.reverse]
  | c :: cs => if c = '\n' then cur.reverse :: linesFrom [] cs else linesFrom (c :: cur) cs

/-- The operations of all lines, or none if one line is ill-formed. -/
def assembleLines : List (List Char) → Option (List Instr)
  | [] => some []
  | l :: ls =>
    match assembleLine l, assembleLines ls with
    | some is, some js => some (is ++ js)
    | _, _ => none

/-- The trace of an assembler text, as bytes (R110, R117). -/
def assemble (text : List Char) : Option (List Byte) := (assembleLines (linesFrom [] text)).map encodeTrace

end Sys2Proof.Machine
end

