-- ==== Sys2Proof/Safety.lean ====
section
/-! DEFINITION. The terms in which claims are made: the fields of the state one by one and the frame of an operation,
the guards and the "State written" lines of the spec's rules, executions and their fairness, the invariants of 10_state.md
R46 and of the DMA records, launch premises, and the optional schedule assumptions of 46_platform_agents.md R285. -/

namespace Sys2Proof.Machine

/-! ### Frames -/

/-- One piece of the state; `buf a` is the byte `BUF[a]`. -/
inductive Field where
  | buf (a : Nat)
  | inited
  | seq
  | rxstatus
  | sig
  | crit
  | outcome
  | result
  | resultValid
  | initResult
  | perfActive
  | deadline
  | sleepUntil
  | txlen
  | rxlen
  | perfT0
  | durLast
  | cntTxn
  | cntRetry
  | cntTimeout
  | cntCrc
  | cntDmaerr
  | cntProto
  | cntUart
  | cntIdle
  | cntBadidle
  | ore
  | ne
  | fe
  | idleFlag
  | rxne
  | txe
  | rdr
  | tdr
  | brr
  | ue
  | te
  | re
  | idleie
  | cr2
  | eie
  | dmar
  | dmat
  | irqAttached
  | rxEn
  | rxCirc
  | rxLen
  | rxNdtr
  | rxCb
  | cbpend
  | txEn
  | txLen
  | txNdtr
  | now
  | txout
  | hostOut
  | trace
  | free
  | cfg
deriving DecidableEq, Repr

/-- Two states hold the same in one piece of the state; a byte of the buffer is compared by reading it. -/
def Field.same (s t : State) : Field → Prop
  | .buf a => Memory.read t.mem a = Memory.read s.mem a
  | .inited => t.inited = s.inited
  | .seq => t.seq = s.seq
  | .rxstatus => t.rxstatus = s.rxstatus
  | .sig => t.sig = s.sig
  | .crit => t.crit = s.crit
  | .outcome => t.outcome = s.outcome
  | .result => t.result = s.result
  | .resultValid => t.resultValid = s.resultValid
  | .initResult => t.initResult = s.initResult
  | .perfActive => t.perfActive = s.perfActive
  | .deadline => t.deadline = s.deadline
  | .sleepUntil => t.sleepUntil = s.sleepUntil
  | .txlen => t.txlen = s.txlen
  | .rxlen => t.rxlen = s.rxlen
  | .perfT0 => t.perfT0 = s.perfT0
  | .durLast => t.durLast = s.durLast
  | .cntTxn => t.cnt.txn = s.cnt.txn
  | .cntRetry => t.cnt.retry = s.cnt.retry
  | .cntTimeout => t.cnt.timeout = s.cnt.timeout
  | .cntCrc => t.cnt.crc = s.cnt.crc
  | .cntDmaerr => t.cnt.dmaerr = s.cnt.dmaerr
  | .cntProto => t.cnt.proto = s.cnt.proto
  | .cntUart => t.cnt.uart = s.cnt.uart
  | .cntIdle => t.cnt.idle = s.cnt.idle
  | .cntBadidle => t.cnt.badidle = s.cnt.badidle
  | .ore => t.uart.ore = s.uart.ore
  | .ne => t.uart.ne = s.uart.ne
  | .fe => t.uart.fe = s.uart.fe
  | .idleFlag => t.uart.idle = s.uart.idle
  | .rxne => t.uart.rxne = s.uart.rxne
  | .txe => t.uart.txe = s.uart.txe
  | .rdr => t.uart.rdr = s.uart.rdr
  | .tdr => t.uart.tdr = s.uart.tdr
  | .brr => t.uart.brr = s.uart.brr
  | .ue => t.uart.ue = s.uart.ue
  | .te => t.uart.te = s.uart.te
  | .re => t.uart.re = s.uart.re
  | .idleie => t.uart.idleie = s.uart.idleie
  | .cr2 => t.uart.cr2 = s.uart.cr2
  | .eie => t.uart.eie = s.uart.eie
  | .dmar => t.uart.dmar = s.uart.dmar
  | .dmat => t.uart.dmat = s.uart.dmat
  | .irqAttached => t.irqAttached = s.irqAttached
  | .rxEn => t.rxdma.en = s.rxdma.en
  | .rxCirc => t.rxdma.circ = s.rxdma.circ
  | .rxLen => t.rxdma.len = s.rxdma.len
  | .rxNdtr => t.rxdma.ndtr = s.rxdma.ndtr
  | .rxCb => t.rxdma.cb = s.rxdma.cb
  | .cbpend => t.cbpend = s.cbpend
  | .txEn => t.txdma.en = s.txdma.en
  | .txLen => t.txdma.len = s.txdma.len
  | .txNdtr => t.txdma.ndtr = s.txdma.ndtr
  | .now => t.now = s.now
  | .txout => t.txout = s.txout
  | .hostOut => t.hostOut = s.hostOut
  | .trace => t.trace = s.trace
  | .free => t.free = s.free
  | .cfg => t.cfg = s.cfg

/-- Everything that is not in the list `w` is the same in `t` as in `s`. -/
def Frame (w : List Field) (s t : State) : Prop := ∀ f : Field, f ∉ w → f.same s t

/-- The five receive flags that `DrainAndClear` clears (R190). -/
def drainFields : List Field := [.rxne, .ore, .ne, .fe, .idleFlag]

/-- What `Complete` may write (R193), the flags aside. -/
def completeFields : List Field := [.rxstatus, .dmar, .dmat, .rxEn, .txEn, .sig]

/-- The "State written" line of each rule, for the state the operation runs in. `hostOut` stands for the value that
`BUFRD` returns, and `free` moves only where `XS13` draws a free value. -/
def writes (s : State) : Instr → List Field
  | .init => [.brr, .irqAttached, .eie, .dmar, .dmat, .ue, .te, .re, .idleie, .cr2, .sig, .inited, .initResult] ++
      drainFields
  | .exchange => [.resultValid, .outcome, .seq]
  | .bufwr a _ => [.buf a.toNat]
  | .bufrd _ => [.hostOut]
  | .diag => []
  | .xs1 => [.perfT0, .perfActive, .seq]
  | .xs2 => .seq :: drainFields
  | .xs3 => [.rxstatus, .seq]
  | .xs4 => [.rxCirc, .rxLen, .rxNdtr, .cbpend, .seq]
  | .xs5 => [.dmar, .rxCb, .rxEn, .seq]
  | .xs6 => [.seq]
  | .xs7 => [.txlen, .txLen, .txNdtr, .seq]
  | .xs8 => [.dmat, .txEn, .seq]
  | .xs9 => [.deadline, .seq]
  | .xs10e => [.crit, .seq]
  | .xs10p => [.sig, .cntDmaerr, .outcome, .seq]
  | .xs10t => [.dmar, .dmat, .rxEn, .txEn, .rxstatus, .sleepUntil, .seq] ++ drainFields
  | .xs10s => [.cntTimeout, .perfActive, .outcome, .seq]
  | .xs11 => [.crit, .rxstatus, .seq]
  | .xs12 => [.outcome, .cntCrc, .seq]
  | .xs13 => [.durLast, .cntTxn, .perfActive, .result, .resultValid, .seq, .free]
  | .dmaCb _ => .cbpend :: completeFields ++ drainFields
  | .uartIrq => [.cntUart, .cntBadidle, .cntIdle, .rxlen] ++ completeFields ++ drainFields
  | .lineRx _ _ _ => [.rdr, .rxne, .ore, .ne, .fe]
  | .lineIdle => [.idleFlag]
  | .lineTx => [.txout, .txe]
  | .dmaRxXfer => [.buf s.rxIndex, .rxne, .rxNdtr, .cbpend, .rxEn]
  | .dmaTxXfer => [.tdr, .txe, .txNdtr, .txEn]
  | .dmaFault => [.rxEn, .cbpend]
  | .tick _ => [.now]

/-! ### Guards -/

/-- The "Enabled when" line of each rule. -/
def enabled (s : State) : Instr → Bool
  | .init => decide (s.inited = false) && decide (s.seq = .idle)
  | .exchange => decide (s.inited = true) && decide (s.seq = .idle)
  | .bufwr a _ => decide (s.seq = .idle) && decide (a.toNat < s.cfg.cap.toNat)
  | .bufrd a => decide (s.seq = .idle) && decide (a.toNat < s.cfg.cap.toNat)
  | .diag => false
  | .xs1 => decide (s.seq = .s1)
  | .xs2 => decide (s.seq = .s2)
  | .xs3 => decide (s.seq = .s3)
  | .xs4 => decide (s.seq = .s4)
  | .xs5 => decide (s.seq = .s5)
  | .xs6 => decide (s.seq = .s6)
  | .xs7 => decide (s.seq = .s7)
  | .xs8 => decide (s.seq = .s8)
  | .xs9 => decide (s.seq = .s9)
  | .xs10e => decide (s.seq = .s10)
  | .xs10p => decide (s.seq = .wait) && decide (0 < s.sig)
  | .xs10t => decide (s.seq = .wait) && decide (s.sig = 0) && decide (s.deadline ≤ s.now)
  | .xs10s => decide (s.seq = .sleep) && decide (s.sleepUntil ≤ s.now)
  | .xs11 => decide (s.seq = .s11)
  | .xs12 => decide (s.seq = .s12)
  | .xs13 => decide (s.seq = .s13)
  | .dmaCb derr => decide (s.cbpend = some derr)
  | .uartIrq => s.irqAttached && ((s.uart.idle && s.uart.idleie) || ((s.uart.ore || s.uart.ne || s.uart.fe) && s.uart.eie))
  | .lineRx _ _ _ => s.uart.ue && s.uart.re
  | .lineIdle => s.uart.ue && s.uart.re
  | .lineTx => !s.uart.txe && s.uart.ue && s.uart.te
  | .dmaRxXfer => s.rxdma.en && s.uart.dmar && s.uart.rxne
  | .dmaTxXfer => s.txdma.en && s.uart.dmat && s.uart.txe && decide (0 < s.txdma.ndtr.toNat) && s.uart.ue && s.uart.te
  | .dmaFault => s.rxdma.en
  | .tick _ => true

/-- The refusal of an operation whose guard is false (60_exceptions.md R318): a caller error for the four host
commands, `DiagNotModelled` for `DIAG`, `NotEnabled` for every other. -/
def refusalOf : Instr → Refusal
  | .init => .callerError
  | .exchange => .callerError
  | .bufwr _ _ => .callerError
  | .bufrd _ => .callerError
  | .diag => .diagNotModelled
  | .xs1 => .notEnabled .xs1
  | .xs2 => .notEnabled .xs2
  | .xs3 => .notEnabled .xs3
  | .xs4 => .notEnabled .xs4
  | .xs5 => .notEnabled .xs5
  | .xs6 => .notEnabled .xs6
  | .xs7 => .notEnabled .xs7
  | .xs8 => .notEnabled .xs8
  | .xs9 => .notEnabled .xs9
  | .xs10e => .notEnabled .xs10e
  | .xs10p => .notEnabled .xs10p
  | .xs10t => .notEnabled .xs10t
  | .xs10s => .notEnabled .xs10s
  | .xs11 => .notEnabled .xs11
  | .xs12 => .notEnabled .xs12
  | .xs13 => .notEnabled .xs13
  | .dmaCb derr => .notEnabled (.dmaCb derr)
  | .uartIrq => .notEnabled .uartIrq
  | .lineRx b ne fe => .notEnabled (.lineRx b ne fe)
  | .lineIdle => .notEnabled .lineIdle
  | .lineTx => .notEnabled .lineTx
  | .dmaRxXfer => .notEnabled .dmaRxXfer
  | .dmaTxXfer => .notEnabled .dmaTxXfer
  | .dmaFault => .notEnabled .dmaFault
  | .tick d => .notEnabled (.tick d)

/-- The word of an operation (30_encoding.md R113): it encodes to it, and is decoded from it whatever follows. -/
def HasWord (i : Instr) (bs : List Byte) : Prop := encode i = bs ∧ ∀ rest : List Byte, decode (bs ++ rest) = .word i rest

/-! ### Executions -/

/-- Run a list of operations (00_scope.md R13), stopping at the first fault or refusal. -/
def runOps (s : State) : List Instr → Host.Outcome State Fault Refusal
  | [] => .next s
  | i :: is =>
    match exec i s with
    | .next t => runOps t is
    | .fault f => .fault f
    | .refused r => .refused r

/-- A restriction on the operations of an execution holds at each of them. -/
def Along (ok : State → Instr → Prop) : State → List Instr → Prop
  | _, [] => True
  | s, i :: is => ok s i ∧ ∀ t, exec i s = .next t → Along ok t is

/-- The states of the runs that start at reset with any well-formed parameters and any trace. -/
inductive Reachable : State → Prop where
  | start (cfg : Config) (trace : List Byte) (h : cfg.wf = true) :
      Reachable { State.resetWith cfg with trace := trace }
  | next (s t : State) (hs : Reachable s) (h : step s = .next t) : Reachable t

/-! ### Fairness (41_exchange_sequencer.md R177, 45_timeout_timer.md R254; 92_eei_decisions.md D37)

The machine takes any enabled operation next; the spec assumes weak fairness of the sequencer and of the clock, and of no
other agent. Fairness speaks of infinite executions, so it is said here of one, and the step function knows nothing of it
(assumption log 18). -/

/-- `σ` and `op` are an infinite execution (00_scope.md R13): `op n` takes `σ n` to `σ (n + 1)`. An operation that faults
or is refused takes no step, so an execution contains none. -/
def Execution (σ : Nat → State) (op : Nat → Instr) : Prop := ∀ n, exec (op n) (σ n) = .next (σ (n + 1))

/-- Weak fairness of the sequencer (R177): a step that stays enabled from some point on runs at or after that point. -/
def SequencerFair (σ : Nat → State) (op : Nat → Instr) : Prop :=
  ∀ (i : Instr) (n : Nat), i.agent = .sequencer → (∀ m, n ≤ m → enabled (σ m) i = true) → ∃ m, n ≤ m ∧ op m = i

/-- Fairness of `TICK` (R254, "`NOW` grows without bound"): `NOW` comes to every value its register can hold
(assumption log 22). -/
def TickFair (σ : Nat → State) : Prop := ∀ v : Time, ∃ n, v ≤ (σ n).now

/-- No `TICK` of the execution wraps the clock (10_state.md R42). -/
def ClockNeverWraps (σ : Nat → State) (op : Nat → Instr) : Prop :=
  ∀ (n : Nat) (d : Time), op n = .tick d → (σ n).now.toNat + d.toNat < 2 ^ 64

/-! ### The sequencer's table -/

/-- `SEQ` is between `S4` and `WAIT` (10_state.md R46). -/
def Seq.setupToWait (q : Seq) : Bool := decide (4 ≤ q.code) && decide (q.code ≤ 11)

/-- `SEQ` is one of `S1` to `S9`. -/
def Seq.inSetup (q : Seq) : Bool := decide (1 ≤ q.code) && decide (q.code ≤ 9)

/-- One row of the table of 10_state.md R22: the operation that moves `SEQ` from its first to its second value. -/
structure SeqEdge where
  source : Seq
  op : Instr
  target : Seq
deriving DecidableEq, Repr

/-- The table of 10_state.md R22. -/
def seqTable : List SeqEdge :=
  [⟨.idle, .exchange, .s1⟩, ⟨.s1, .xs1, .s2⟩, ⟨.s2, .xs2, .s3⟩, ⟨.s3, .xs3, .s4⟩, ⟨.s4, .xs4, .s5⟩,
   ⟨.s5, .xs5, .s6⟩, ⟨.s6, .xs6, .s7⟩, ⟨.s7, .xs7, .s8⟩, ⟨.s8, .xs8, .s9⟩, ⟨.s9, .xs9, .s10⟩,
   ⟨.s10, .xs10e, .wait⟩, ⟨.wait, .xs10p, .s11⟩, ⟨.wait, .xs10t, .sleep⟩, ⟨.sleep, .xs10s, .s11⟩,
   ⟨.s11, .xs11, .s12⟩, ⟨.s12, .xs12, .s13⟩, ⟨.s13, .xs13, .idle⟩]

/-! ### Invariants -/

/-- The five invariants of 10_state.md R46, (a) to (e). -/
structure SessionRules (s : State) : Prop where
  a : s.sig ≤ 1
  b : s.sig = 1 → (s.rxstatus = .completedOk ∨ s.rxstatus = .completedError) ∧ s.seq.setupToWait = true
  c : s.seq = .idle → s.rxstatus = .inactive ∧ s.sig = 0 ∧ s.crit = false ∧ s.perfActive = false
  d : s.rxstatus = .waiting → s.seq.setupToWait = true
  e : s.seq = .sleep → s.rxstatus = .inactive ∧ s.sig = 0

/-- R46 with what makes it inductive: after `XS11` the session is inactive and the critical section left (R173). -/
structure SessionInv (s : State) : Prop where
  rules : SessionRules s
  tail : s.seq = .s12 ∨ s.seq = .s13 → s.rxstatus = .inactive ∧ s.crit = false

/-- The lifecycle: when the machine is busy it is initialised (R312); the UART is on exactly after `INIT` (R33, R35) and
before it nothing runs (R341); `INIT_RESULT` is `Ok` exactly after a successful `INIT` (R28, R140); `CRIT` covers `WAIT`, `SLEEP` and `S11` only (R357); a valid result is seen only
between exchanges and is what the latch holds (R28, R143). -/
structure LifecycleInv (s : State) : Prop where
  busyInited : s.seq ≠ .idle → s.inited = true
  on : s.inited = true → s.uart.ue = true ∧ s.uart.te = true ∧ s.uart.re = true ∧ s.uart.idleie = true ∧
    s.uart.eie = true ∧ s.irqAttached = true
  off : s.inited = false → s.uart.ue = false ∧ s.uart.te = false ∧ s.uart.re = false ∧ s.uart.idleie = false ∧
    s.uart.eie = false ∧ s.irqAttached = false ∧ s.rxdma.en = false ∧ s.txdma.en = false ∧ s.cbpend = none
  initOk : s.inited = true ↔ s.initResult = .ok
  critical : s.crit = true ↔ s.seq = .wait ∨ s.seq = .sleep ∨ s.seq = .s11
  outcomeBefore : s.seq ≠ .idle → s.seq.code ≤ 12 → s.outcome = .none
  outcomeAfter : s.seq = .s11 ∨ s.seq = .s12 →
    s.outcome = .pending ∨ s.outcome = .timeout ∨ s.outcome = .protocolError
  outcomeLast : s.seq = .s13 → s.outcome = .success ∨ s.outcome = .timeout ∨ s.outcome = .protocolError
  sample : 2 ≤ s.seq.code → (s.perfActive = true ↔ s.outcome ≠ .timeout)
  sampleClosed : s.seq.code ≤ 1 → s.perfActive = false
  valid : s.resultValid = true → s.seq = .idle ∧ (s.outcome = .success ∧ s.result = .success ∨
    s.outcome = .timeout ∧ s.result = .timeout ∨ s.outcome = .protocolError ∧ s.result = .protocolError)

/-- The DMA records and the buffer: a receive channel that has been programmed has length `CAP`, is circular and
counts between 1 and `CAP` (R216); one that has not is stopped; a running one has its callback (R275); the transmit
count is at most its length, and that at most `CAP` (R71); no index of `CAP` or more is written (R70). -/
structure DmaInv (s : State) : Prop where
  cfg : s.cfg.wf = true
  receive : (s.rxdma.len = 0 ∧ s.rxdma.ndtr = 0 ∧ s.rxdma.en = false ∧ s.seq.code ≤ 4) ∨
    (s.rxdma.len = s.cfg.cap ∧ s.rxdma.circ = true ∧ 1 ≤ s.rxdma.ndtr.toNat ∧ s.rxdma.ndtr.toNat ≤ s.cfg.cap.toNat)
  callback : s.rxdma.en = true → s.rxdma.cb = true
  transmit : s.txdma.ndtr.toNat ≤ s.txdma.len.toNat ∧ s.txdma.len.toNat ≤ s.cfg.cap.toNat
  inside : ∀ a b, Memory.read s.mem a = some b → a < s.cfg.cap.toNat

/-- Every counter is below `2^CNT_W` (R41). -/
def CountersFit (s : State) : Prop := ∀ c : Counter, s.cnt.get c < 2 ^ s.cfg.cntW

/-- Both request lines are off and both channels stopped. -/
def Stopped (s : State) : Prop :=
  s.uart.dmar = false ∧ s.uart.dmat = false ∧ s.rxdma.en = false ∧ s.txdma.en = false

/-- The five receive flags are clear. -/
def FlagsClear (s : State) : Prop :=
  s.uart.rxne = false ∧ s.uart.ore = false ∧ s.uart.ne = false ∧ s.uart.fe = false ∧ s.uart.idle = false

/-- The states differ at most in the contents of `BUF`. -/
def SameButBuf (s t : State) : Prop := { s with mem := [] } = { t with mem := [] }

/-! ### Launch premises -/

/-- The precondition of `EXCHANGE` on `BUF` (40_host_commands.md R142). -/
def LaunchPremise (s : State) : Prop :=
  ∃ len, s.frameLen = .ok len ∧ 1 ≤ len ∧ len ≤ s.cfg.cap.toNat ∧
    ∀ i, i < max len hdrLen → ∃ b, Memory.read s.mem i = some b

/-- The clock premise (10_state.md R42). -/
def ClockPremise (s : State) : Prop := s.now.toNat + timeoutTicks.toNat + s.cfg.sleepTicks.toNat < 2 ^ 64

/-! ### The optional schedule assumptions (46_platform_agents.md R285); none holds by default -/

/-- The line delivers a character or goes idle: `LINE_RX` or `LINE_IDLE`. -/
def isLineEvent (i : Instr) : Bool := decide (i.agent = .line)

/-- `A_PROMPT_DMA`: an enabled `DMA_RX_XFER` runs before line events and handlers, an enabled `DMA_TX_XFER` before
sequencer steps. -/
def promptDma (s : State) (i : Instr) : Prop :=
  (enabled s .dmaRxXfer = true → isLineEvent i = false ∧ i.agent ≠ .arbiter) ∧
  (enabled s .dmaTxXfer = true → i.agent ≠ .sequencer)

/-- `A_PROMPT_CB`: an enabled `DMA_CB` runs before line events, `UART_IRQ` and sequencer steps. -/
def promptCb (s : State) (i : Instr) : Prop :=
  s.cbpend ≠ none → isLineEvent i = false ∧ i ≠ .uartIrq ∧ i.agent ≠ .sequencer

/-- `A_NO_EARLY_EVENT`: no line event and no DMA fault while `SEQ` is in `S1 .. S9`. -/
def noEarlyEvent (s : State) (i : Instr) : Prop :=
  s.seq.inSetup = true → isLineEvent i = false ∧ i ≠ .dmaFault

/-- The last byte of the request has been put on the line: the transmit channel has been programmed by this exchange,
has moved every byte, and the holding register is empty (assumption log 20). -/
def State.requestSent (s : State) : Prop := 8 ≤ s.seq.code ∧ s.txdma.ndtr = 0 ∧ s.uart.txe = true

/-- `A_PEER_HALF_DUPLEX`: no line event during an exchange before the request is on the line. Its row in R285 restricts
no more than that, and says all the same that it implies `A_NO_EARLY_EVENT` for line events, which includes `S9`; a
request that is all on the line while `SEQ` is still `S9` (or `S8`, if a transmit channel was left running by hazard
HZ1) admits a line event there. The model follows the restriction
(DESIGN CHOICE, assumption log 23). -/
def peerHalfDuplex (s : State) (i : Instr) : Prop := s.seq ≠ .idle → ¬ s.requestSent → isLineEvent i = false

/-- Where an execution stands towards `A_IDLE_AFTER_BYTE`: `LINE_IDLE` may not come next; it may, the last operation being
a `LINE_RX`, whose byte the receiver took into `RDR` or lost to an overrun; it may, the last operation being the
`DMA_RX_XFER` of the byte taken by the `LINE_RX` directly before. -/
inductive IdleGate where
  | closed
  | afterByte (taken : Bool)
  | afterTransfer
deriving DecidableEq, Repr

/-- How an operation that runs in `s` moves the gate (R285). A `LINE_RX` opens it, and its byte is taken exactly when
`RXNE` was 0 (R270); the transfer keeps it open only if it moves that byte; all else closes it, `LINE_IDLE` too
(assumption log 24). -/
def IdleGate.after (g : IdleGate) (s : State) (i : Instr) : IdleGate :=
  if isLineEvent i then (if i = .lineIdle then .closed else .afterByte (!s.uart.rxne))
  else if i = .dmaRxXfer ∧ g = .afterByte true then .afterTransfer
  else .closed

/-- `A_IDLE_AFTER_BYTE`, along an execution from a state and a gate; an execution from reset begins with it `closed`. -/
def IdleAfterByte : IdleGate → State → List Instr → Prop
  | _, _, [] => True
  | g, s, i :: is =>
    (i = .lineIdle → g ≠ .closed) ∧ ∀ t, exec i s = .next t → IdleAfterByte (g.after s i) t is

/-- The premise of 41_exchange_sequencer.md R178: no completion was accepted before `XS8` ran, that is, `XS8` finds
the session still `Waiting`. -/
def xs8FindsWaiting (s : State) (i : Instr) : Prop := i = .xs8 → s.rxstatus = .waiting

end Sys2Proof.Machine
end

