-- ==== Sys2Proof/Certificates/Slice0/Obligations.lean ====
section
/-! DEFINITION. The statements about the machine, for the provers. Each docstring names the rules it formalises. -/

open Sys2Proof Sys2Proof.Machine

/-! ### Encoding -/

/-- R110 to R113: decoding the word of a well-formed operation gives the operation back and leaves what follows. -/
def Obligations.DecodeOfEncode : Prop :=
  ∀ (i : Instr) (rest : List Byte), i.wellFormed = true → decode (encode i ++ rest) = .word i rest

/-- R110 to R116: what the decoder takes off a byte string is exactly the word of the operation it answers, that
operation is well-formed, and the word is as long as its first byte says. -/
def Obligations.DecodedWordIsItsEncoding : Prop :=
  ∀ (opc : Byte) (tail : List Byte) (i : Instr) (rest : List Byte), decode (opc :: tail) = .word i rest →
    opc :: tail = encode i ++ rest ∧ i.wellFormed = true ∧ wordLength opc = some (encode i).length

/-- R115 and R116: the illegal opcode bytes are exactly the listed ones, and the length of a word is a function of its
first byte; a trace that begins with an illegal byte, or ends inside a word, is refused as an illegal word. -/
def Obligations.WordLengthsAndIllegalWords : Prop :=
  (∀ opc : Byte, wordLength opc = none ↔
    opc.toNat = 0 ∨ (0x05 ≤ opc.toNat ∧ opc.toNat ≤ 0x0E) ∨ opc.toNat = 0x10 ∨
    (0x20 ≤ opc.toNat ∧ opc.toNat ≤ 0x2A) ∨ (0x2C ≤ opc.toNat ∧ opc.toNat ≤ 0x2F) ∨
    (0x33 ≤ opc.toNat ∧ opc.toNat ≤ 0x4F) ∨ 0x5A ≤ opc.toNat) ∧
  (∀ opc : Byte, wordLength opc ≠ none →
    wordLength opc = some (if opc = 0x03 ∨ opc = 0x59 then 3
      else if opc = 0x04 ∨ (0x50 ≤ opc.toNat ∧ opc.toNat ≤ 0x53) then 2 else 1)) ∧
  (∀ (s : State) (opc : Byte) (tail : List Byte), s.trace = opc :: tail → wordLength opc = none →
    step s = .refused .illegalWord) ∧
  (∀ (s : State) (opc : Byte) (tail : List Byte) (n : Nat), s.trace = opc :: tail → wordLength opc = some n →
    tail.length + 1 < n → step s = .refused .illegalWord)

/-- R119: the worked encodings. -/
def Obligations.WorkedEncodings : Prop :=
  HasWord .init [0x01] ∧ HasWord (.bufwr 9 0x54) [0x03, 0x09, 0x54] ∧ HasWord .xs10t [0x2B] ∧
  HasWord (.dmaCb true) [0x31] ∧ HasWord (.lineRx 0x00 false true) [0x52, 0x00] ∧
  HasWord (.lineRx 0x55 true false) [0x51, 0x55] ∧ HasWord (.tick 10000) [0x59, 0x10, 0x27] ∧
  encodeTrace (asmRxb 0xAA) = [0x50, 0xAA, 0x56]

/-! ### The step -/

/-- A step runs the operation whose word stands at the head of the trace, taking the word off the trace; what is left
of the trace is what stood behind the word; with no word left, nothing happens (the idling is the model's choice, log 5,
after R341). -/
def Obligations.StepRunsDecodedWord : Prop :=
  (∀ (s : State) (i : Instr) (rest : List Byte), decode s.trace = .word i rest →
    step s = exec i { s with trace := rest }) ∧
  (∀ (s t : State) (i : Instr) (rest : List Byte), decode s.trace = .word i rest → step s = .next t →
    t.trace = rest) ∧
  (∀ s : State, s.trace = [] → step s = .next s)

/-! ### Host commands -/

/-- R140. -/
def Obligations.InitConfiguresOrReports : Prop :=
  HasWord .init [0x01] ∧
  (∀ s : State, s.inited = false → s.seq = .idle → s.cfg.rxchAvail = true → s.cfg.txchAvail = true →
    ∃ t, exec .init s = .next t ∧
      t.uart.ue = true ∧ t.uart.te = true ∧ t.uart.re = true ∧ t.uart.idleie = true ∧ t.uart.eie = true ∧
      t.uart.dmar = false ∧ t.uart.dmat = false ∧ t.uart.cr2 = 0 ∧ FlagsClear t ∧
      t.uart.cr1 = 0x201C ∧ t.uart.cr3 = 0x0001 ∧ (s.uart.txe = true → t.uart.sr = 0x80) ∧
      t.uart.brr = s.cfg.brrValue ∧ t.irqAttached = true ∧ t.sig = 0 ∧ t.inited = true ∧ t.initResult = .ok ∧
      Frame (writes s .init) s t) ∧
  (∀ s : State, s.inited = false → s.seq = .idle → ¬ (s.cfg.rxchAvail = true ∧ s.cfg.txchAvail = true) →
    ∃ t, exec .init s = .next t ∧ t.initResult = .resourceExhausted ∧ Frame [.initResult] s t) ∧
  (∀ s : State, s.inited = true ∨ s.seq ≠ .idle → exec .init s = .refused .callerError)

/-- R142: entry into the sequence; the precondition on `BUF` is not tested. -/
def Obligations.ExchangeEntersSequence : Prop :=
  HasWord .exchange [0x02] ∧
  (∀ s : State, s.inited = true → s.seq = .idle →
    ∃ t, exec .exchange s = .next t ∧ t.resultValid = false ∧ t.outcome = .none ∧ t.seq = .s1 ∧
      Frame [.resultValid, .outcome, .seq] s t) ∧
  (∀ s : State, s.inited = false ∨ s.seq ≠ .idle → exec .exchange s = .refused .callerError)

/-- R144. -/
def Obligations.BufwrWritesOneByte : Prop :=
  (∀ a d : Byte, HasWord (.bufwr (indexOperand a) d) [0x03, a, d]) ∧
  (∀ (s : State) (a : Half) (d : Byte), s.seq = .idle → a.toNat < s.cfg.cap.toNat →
    ∃ t, exec (.bufwr a d) s = .next t ∧ Memory.read t.mem a.toNat = some d ∧ Frame [.buf a.toNat] s t) ∧
  (∀ (s : State) (a : Half) (d : Byte), s.seq ≠ .idle ∨ s.cfg.cap.toNat ≤ a.toNat →
    exec (.bufwr a d) s = .refused .callerError)

/-- R145: the byte is returned, in the model's output list (log 6); no state of the block is written. -/
def Obligations.BufrdReturnsTheByte : Prop :=
  (∀ a : Byte, HasWord (.bufrd (indexOperand a)) [0x04, a]) ∧
  (∀ (s : State) (a : Half) (b : Byte), s.seq = .idle → a.toNat < s.cfg.cap.toNat →
    Memory.read s.mem a.toNat = some b →
    ∃ t, exec (.bufrd a) s = .next t ∧ t.hostOut = s.hostOut ++ [b] ∧ Frame [.hostOut] s t) ∧
  (∀ (s : State) (a : Half), s.seq = .idle → a.toNat < s.cfg.cap.toNat → Memory.read s.mem a.toNat = none →
    exec (.bufrd a) s = .fault (.unwrittenBuffer a.toNat)) ∧
  (∀ (s : State) (a : Half), s.seq ≠ .idle ∨ s.cfg.cap.toNat ≤ a.toNat →
    exec (.bufrd a) s = .refused .callerError)

/-- R146: `DIAG` is a legal word that is always refused. -/
def Obligations.DiagAlwaysRefused : Prop :=
  HasWord .diag [0x0F] ∧ ∀ s : State, exec .diag s = .refused .diagNotModelled

/-! ### Sequencer -/

/-- R160, R161 and R162: `XS1` opens the duration sample, `XS2` drains and clears, `XS3` marks the session `Waiting`. -/
def Obligations.OpeningSteps : Prop :=
  HasWord .xs1 [0x11] ∧
  (∀ s : State, s.seq = .s1 →
    ∃ t, exec .xs1 s = .next t ∧ t.perfT0 = s.now ∧ t.perfActive = true ∧ t.seq = .s2 ∧
      Frame [.perfT0, .perfActive, .seq] s t) ∧
  (∀ s : State, s.seq ≠ .s1 → exec .xs1 s = .refused (.notEnabled .xs1)) ∧
  HasWord .xs2 [0x12] ∧
  (∀ s : State, s.seq = .s2 →
    ∃ t, exec .xs2 s = .next t ∧ FlagsClear t ∧ t.seq = .s3 ∧
      Frame [.rxne, .ore, .ne, .fe, .idleFlag, .seq] s t) ∧
  (∀ s : State, s.seq ≠ .s2 → exec .xs2 s = .refused (.notEnabled .xs2)) ∧
  HasWord .xs3 [0x13] ∧
  (∀ s : State, s.seq = .s3 →
    ∃ t, exec .xs3 s = .next t ∧ t.rxstatus = .waiting ∧ t.seq = .s4 ∧ Frame [.rxstatus, .seq] s t) ∧
  (∀ s : State, s.seq ≠ .s3 → exec .xs3 s = .refused (.notEnabled .xs3))

/-- R163: the channel enable is not among what is written. -/
def Obligations.Xs4ProgramsReceive : Prop :=
  HasWord .xs4 [0x14] ∧
  (∀ s : State, s.seq = .s4 →
    ∃ t, exec .xs4 s = .next t ∧ t.rxdma.circ = true ∧ t.rxdma.len = s.cfg.cap ∧ t.rxdma.ndtr = s.cfg.cap ∧
      t.cbpend = none ∧ t.seq = .s5 ∧ Frame [.rxCirc, .rxLen, .rxNdtr, .cbpend, .seq] s t) ∧
  (∀ s : State, s.seq ≠ .s4 → exec .xs4 s = .refused (.notEnabled .xs4))

/-- R164, with its corner case: a byte already pending makes a receive transfer requested at once. -/
def Obligations.Xs5StartsReceive : Prop :=
  HasWord .xs5 [0x15] ∧
  (∀ s : State, s.seq = .s5 →
    ∃ t, exec .xs5 s = .next t ∧ t.uart.dmar = true ∧ t.rxdma.cb = true ∧ t.rxdma.en = true ∧ t.seq = .s6 ∧
      (s.uart.rxne = true → enabled t .dmaRxXfer = true) ∧ Frame [.dmar, .rxCb, .rxEn, .seq] s t) ∧
  (∀ s : State, s.seq ≠ .s5 → exec .xs5 s = .refused (.notEnabled .xs5))

/-- R165 and R82: the flush changes no state. -/
def Obligations.Xs6FlushChangesNothingElse : Prop :=
  HasWord .xs6 [0x16] ∧
  (∀ s : State, s.seq = .s6 → ∃ t, exec .xs6 s = .next t ∧ t.seq = .s7 ∧ Frame [.seq] s t) ∧
  (∀ s : State, s.seq ≠ .s6 → exec .xs6 s = .refused (.notEnabled .xs6)) ∧
  (∀ s : State, s.flushCache = s ∧ s.invalidateCache = s)

/-- R166: the transmit length is the declared length of the buffer as it is now; a length 0 or above `CAP` and a header
byte without value are faults. -/
def Obligations.Xs7ProgramsTransmit : Prop :=
  HasWord .xs7 [0x17] ∧
  (∀ (s : State) (len : Nat), s.seq = .s7 → s.frameLen = .ok len → 1 ≤ len → len ≤ s.cfg.cap.toNat →
    ∃ t, exec .xs7 s = .next t ∧ t.txlen.toNat = len ∧ t.txdma.len.toNat = len ∧ t.txdma.ndtr.toNat = len ∧
      t.txIndex = 0 ∧ t.seq = .s8 ∧ Frame [.txlen, .txLen, .txNdtr, .seq] s t) ∧
  (∀ (s : State) (len : Nat), s.seq = .s7 → s.frameLen = .ok len → len < 1 ∨ s.cfg.cap.toNat < len →
    exec .xs7 s = .fault (.txLenOutOfRange len)) ∧
  (∀ (s : State) (i : Nat), s.seq = .s7 → s.frameLen = .error (.unwrittenBuffer i) →
    exec .xs7 s = .fault (.unwrittenBuffer i)) ∧
  (∀ s : State, s.seq ≠ .s7 → exec .xs7 s = .refused (.notEnabled .xs7))

/-- R167: the step does not look at `RXSTATUS`; hazard HZ1 begins here. -/
def Obligations.Xs8StartsTransmit : Prop :=
  HasWord .xs8 [0x18] ∧
  (∀ s : State, s.seq = .s8 →
    ∃ t, exec .xs8 s = .next t ∧ t.uart.dmat = true ∧ t.txdma.en = true ∧ t.seq = .s9 ∧
      Frame [.dmat, .txEn, .seq] s t) ∧
  (∀ s : State, s.seq ≠ .s8 → exec .xs8 s = .refused (.notEnabled .xs8))

/-- R168: the absolute deadline is 10000 ticks from now, exactly so under the clock premise. -/
def Obligations.Xs9ArmsTheDeadline : Prop :=
  HasWord .xs9 [0x19] ∧
  (∀ s : State, s.seq = .s9 →
    ∃ t, exec .xs9 s = .next t ∧ t.deadline = s.now + 10000 ∧
      (ClockPremise s → t.deadline.toNat = s.now.toNat + 10000) ∧ t.seq = .s10 ∧
      Frame [.deadline, .seq] s t) ∧
  (∀ s : State, s.seq ≠ .s9 → exec .xs9 s = .refused (.notEnabled .xs9))

/-- R169 and R173: `XS10E` enters the critical section, which masks neither handler, and `XS11` leaves it and resets
`RXSTATUS`, on every path. -/
def Obligations.CriticalSectionSteps : Prop :=
  HasWord .xs10e [0x1A] ∧
  (∀ s : State, s.seq = .s10 →
    ∃ t, exec .xs10e s = .next t ∧ t.crit = true ∧ t.seq = .wait ∧ Frame [.crit, .seq] s t ∧
      enabled t .uartIrq = enabled s .uartIrq ∧ ∀ e, enabled t (.dmaCb e) = enabled s (.dmaCb e)) ∧
  (∀ s : State, s.seq ≠ .s10 → exec .xs10e s = .refused (.notEnabled .xs10e)) ∧
  HasWord .xs11 [0x1D] ∧
  (∀ s : State, s.seq = .s11 →
    ∃ t, exec .xs11 s = .next t ∧ t.crit = false ∧ t.rxstatus = .inactive ∧ t.seq = .s12 ∧
      Frame [.crit, .rxstatus, .seq] s t) ∧
  (∀ s : State, s.seq ≠ .s11 → exec .xs11 s = .refused (.notEnabled .xs11))

/-- R170. -/
def Obligations.Xs10pTakesThePost : Prop :=
  HasWord .xs10p [0x1B] ∧
  (∀ s : State, s.seq = .wait → 0 < s.sig → s.rxstatus = .completedError →
    ∃ t, exec .xs10p s = .next t ∧ t.sig = s.sig - 1 ∧ t.cnt.dmaerr = (s.cnt.dmaerr + 1) % 2 ^ s.cfg.cntW ∧
      t.outcome = .protocolError ∧ t.seq = .s11 ∧ Frame [.sig, .cntDmaerr, .outcome, .seq] s t) ∧
  (∀ s : State, s.seq = .wait → 0 < s.sig → s.rxstatus ≠ .completedError →
    ∃ t, exec .xs10p s = .next t ∧ t.sig = s.sig - 1 ∧ t.outcome = .pending ∧ t.seq = .s11 ∧
      Frame [.sig, .outcome, .seq] s t) ∧
  (∀ s : State, s.seq ≠ .wait ∨ s.sig = 0 → exec .xs10p s = .refused (.notEnabled .xs10p)) ∧
  (∀ s : State, 0 < s.sig → exec .xs10t s = .refused (.notEnabled .xs10t))

/-- R171: the abort, the reset of `RXSTATUS` and the start of the sleep are one step; nothing is posted; a post beats
the deadline; the step is first enabled in the tick that equals the deadline. -/
def Obligations.Xs10tAbortsAtTheDeadline : Prop :=
  HasWord .xs10t [0x2B] ∧
  (∀ s : State, s.seq = .wait → s.sig = 0 → s.deadline.toNat ≤ s.now.toNat →
    ∃ t, exec .xs10t s = .next t ∧ Stopped t ∧ FlagsClear t ∧ t.rxstatus = .inactive ∧
      t.sleepUntil = s.now + s.cfg.sleepTicks ∧ t.seq = .sleep ∧ t.sig = 0 ∧
      Frame [.dmar, .dmat, .rxEn, .txEn, .rxne, .ore, .ne, .fe, .idleFlag, .rxstatus, .sleepUntil, .seq] s t) ∧
  (∀ s : State, s.seq ≠ .wait ∨ 0 < s.sig ∨ s.now.toNat < s.deadline.toNat →
    exec .xs10t s = .refused (.notEnabled .xs10t))

/-- R172. -/
def Obligations.Xs10sEndsTheSleep : Prop :=
  HasWord .xs10s [0x1C] ∧
  (∀ s : State, s.seq = .sleep → s.sleepUntil.toNat ≤ s.now.toNat →
    ∃ t, exec .xs10s s = .next t ∧ t.cnt.timeout = (s.cnt.timeout + 1) % 2 ^ s.cfg.cntW ∧
      t.perfActive = false ∧ t.outcome = .timeout ∧ t.seq = .s11 ∧
      Frame [.cntTimeout, .perfActive, .outcome, .seq] s t) ∧
  (∀ s : State, s.seq ≠ .sleep ∨ s.now.toNat < s.sleepUntil.toNat →
    exec .xs10s s = .refused (.notEnabled .xs10s))

/-- R174 and R235: the verdict decides the outcome of a non-error wake; the buffer is not modified; on any other wake
only `SEQ` moves. -/
def Obligations.Xs12JudgesTheReply : Prop :=
  HasWord .xs12 [0x1E] ∧
  (∀ s : State, s.seq = .s12 → s.outcome = .pending → s.crcCheck = .ok .good →
    ∃ t, exec .xs12 s = .next t ∧ t.outcome = .success ∧ t.seq = .s13 ∧ Frame [.outcome, .seq] s t) ∧
  (∀ s : State, s.seq = .s12 → s.outcome = .pending → s.crcCheck = .ok .bad →
    ∃ t, exec .xs12 s = .next t ∧ t.outcome = .protocolError ∧
      t.cnt.crc = (s.cnt.crc + 1) % 2 ^ s.cfg.cntW ∧ t.seq = .s13 ∧ Frame [.outcome, .cntCrc, .seq] s t) ∧
  (∀ (s : State) (f : Fault), s.seq = .s12 → s.outcome = .pending → s.crcCheck = .error f →
    exec .xs12 s = .fault f) ∧
  (∀ s : State, s.seq = .s12 → s.outcome ≠ .pending →
    ∃ t, exec .xs12 s = .next t ∧ t.seq = .s13 ∧ Frame [.seq] s t) ∧
  (∀ s : State, s.seq ≠ .s12 → exec .xs12 s = .refused (.notEnabled .xs12))

/-- R175: the sample is recorded when one is open, the result published, the caller released. For a latch that still
holds `None` or `Pending`, which no run reaches, the spec states no result and the statement says nothing of it
(log 9). -/
def Obligations.Xs13Returns : Prop :=
  HasWord .xs13 [0x1F] ∧
  (∀ s : State, s.seq = .s13 →
    ∃ t, exec .xs13 s = .next t ∧ t.resultValid = true ∧ t.seq = .idle ∧ t.perfActive = false ∧
      (s.outcome = .success → t.result = .success) ∧ (s.outcome = .timeout → t.result = .timeout) ∧
      (s.outcome = .protocolError → t.result = .protocolError) ∧
      (s.perfActive = true → t.durLast = s.now - s.perfT0 ∧ t.cnt.txn = (s.cnt.txn + 1) % 2 ^ s.cfg.cntW) ∧
      (s.perfActive = false → t.durLast = s.durLast ∧ t.cnt.txn = s.cnt.txn) ∧
      (s.outcome ≠ .none → s.outcome ≠ .pending → t.free = s.free) ∧
      Frame [.durLast, .cntTxn, .perfActive, .result, .resultValid, .seq, .free] s t) ∧
  (∀ s : State, s.seq ≠ .s13 → exec .xs13 s = .refused (.notEnabled .xs13))

/-! ### Arbiter and detectors -/

/-- R190, R191 and R192: the drain clears the five flags and touches nothing else; a stop clears one enable bit and is
idempotent; an abort is quiescent and neither writes `RXSTATUS` nor posts. -/
def Obligations.DrainStopAndAbort : Prop :=
  (∀ s : State, FlagsClear s.drainAndClear ∧ Frame [.rxne, .ore, .ne, .fe, .idleFlag] s s.drainAndClear) ∧
  (∀ s : State, s.stopRx.rxdma.en = false ∧ Frame [.rxEn] s s.stopRx ∧ s.stopRx.stopRx = s.stopRx) ∧
  (∀ s : State, s.stopTx.txdma.en = false ∧ Frame [.txEn] s s.stopTx ∧ s.stopTx.stopTx = s.stopTx) ∧
  (∀ s : State, Stopped s.abort ∧ FlagsClear s.abort ∧
    Frame [.dmar, .dmat, .rxEn, .txEn, .rxne, .ore, .ne, .fe, .idleFlag] s s.abort)

/-- R193: `Complete` acts only on a `Waiting` session; an overrun or a pending byte forces the error status, is drained
and cleared; noise, framing and idle flags alone force nothing and stay. -/
def Obligations.CompleteActsOnceAndOverrunWins : Prop :=
  (∀ (s : State) (st : Status), s.rxstatus ≠ .waiting → s.complete st = s) ∧
  (∀ (s : State) (st : Status), s.rxstatus = .waiting →
    Stopped (s.complete st) ∧ (s.complete st).sig = s.sig + 1) ∧
  (∀ (s : State) (st : Status), s.rxstatus = .waiting → s.uart.ore = true ∨ s.uart.rxne = true →
    (s.complete st).rxstatus = .completedError ∧ FlagsClear (s.complete st) ∧
    Frame [.rxstatus, .dmar, .dmat, .rxEn, .txEn, .sig, .rxne, .ore, .ne, .fe, .idleFlag] s (s.complete st)) ∧
  (∀ (s : State) (st : Status), s.rxstatus = .waiting → s.uart.ore = false → s.uart.rxne = false →
    (st = .ok → (s.complete st).rxstatus = .completedOk) ∧
    (st = .err → (s.complete st).rxstatus = .completedError) ∧
    Frame [.rxstatus, .dmar, .dmat, .rxEn, .txEn, .sig] s (s.complete st))

/-- R194: the event is consumed whether or not the completion is accepted; the reported status is adopted verbatim
unless an overrun or a pending byte is found. -/
def Obligations.DmaCbCompletes : Prop :=
  (HasWord (.dmaCb false) [0x30] ∧ HasWord (.dmaCb true) [0x31]) ∧
  (∀ (s : State) (derr : Bool), s.cbpend = some derr → s.rxstatus = .waiting →
    ∃ t, exec (.dmaCb derr) s = .next t ∧ t.cbpend = none ∧ Stopped t ∧ t.sig = s.sig + 1 ∧
      t.rxstatus = (if derr = true ∨ s.uart.ore = true ∨ s.uart.rxne = true then .completedError else .completedOk) ∧
      (s.uart.ore = true ∨ s.uart.rxne = true → FlagsClear t) ∧
      (s.uart.ore = false → s.uart.rxne = false →
        Frame [.cbpend, .rxstatus, .dmar, .dmat, .rxEn, .txEn, .sig] s t) ∧
      Frame [.cbpend, .rxstatus, .dmar, .dmat, .rxEn, .txEn, .sig, .rxne, .ore, .ne, .fe, .idleFlag] s t) ∧
  (∀ (s : State) (derr : Bool), s.cbpend = some derr → s.rxstatus ≠ .waiting →
    ∃ t, exec (.dmaCb derr) s = .next t ∧ t.cbpend = none ∧ Frame [.cbpend] s t) ∧
  (∀ (s : State) (derr : Bool), s.cbpend ≠ some derr → exec (.dmaCb derr) s = .refused (.notEnabled (.dmaCb derr)))

/-- R215 and R212, R214: the decision table of `UART_IRQ`, except for the length test, which is the next statement: the
flags end clear; a line error is counted with or without a session and fatal to a waiting one; an idle event with
no session waiting only clears the flags. -/
def Obligations.UartIrqLineErrorsAndIdleWithoutSession : Prop :=
  HasWord .uartIrq [0x32] ∧
  (∀ s : State, enabled s .uartIrq = true → s.uart.ore = true ∨ s.uart.ne = true ∨ s.uart.fe = true →
    s.rxstatus = .waiting →
    ∃ t, exec .uartIrq s = .next t ∧ FlagsClear t ∧ Stopped t ∧ t.rxstatus = .completedError ∧
      t.sig = s.sig + 1 ∧ t.cnt.uart = (s.cnt.uart + 1) % 2 ^ s.cfg.cntW ∧
      Frame [.cntUart, .rxstatus, .sig, .dmar, .dmat, .rxEn, .txEn, .rxne, .ore, .ne, .fe, .idleFlag] s t) ∧
  (∀ s : State, enabled s .uartIrq = true → s.uart.ore = true ∨ s.uart.ne = true ∨ s.uart.fe = true →
    s.rxstatus ≠ .waiting →
    ∃ t, exec .uartIrq s = .next t ∧ FlagsClear t ∧ t.cnt.uart = (s.cnt.uart + 1) % 2 ^ s.cfg.cntW ∧
      Frame [.cntUart, .rxne, .ore, .ne, .fe, .idleFlag] s t) ∧
  (∀ s : State, enabled s .uartIrq = true → s.uart.ore = false → s.uart.ne = false → s.uart.fe = false →
    s.rxstatus ≠ .waiting →
    ∃ t, exec .uartIrq s = .next t ∧ FlagsClear t ∧ Frame [.rxne, .ore, .ne, .fe, .idleFlag] s t) ∧
  (∀ s : State, enabled s .uartIrq = false → exec .uartIrq s = .refused (.notEnabled .uartIrq))

/-- R213 and R216: a short reception is accepted iff the measured length `CAP - NDTR` is at least 1 and at least the
declared length; both ways it is counted, the length latched, the channels stopped and the session posted once. A measured
length of 0 is malformed without a look at the header (log 10); a header byte without value faults. -/
def Obligations.UartIrqAcceptsShortReceptionIff : Prop :=
  (∀ (s : State) (declared : Nat), enabled s .uartIrq = true → s.uart.ore = false → s.uart.ne = false →
    s.uart.fe = false → s.rxstatus = .waiting → s.frameLen = .ok declared →
    ∃ t, exec .uartIrq s = .next t ∧ FlagsClear t ∧ Stopped t ∧ t.sig = s.sig + 1 ∧
      t.rxlen = s.cfg.cap - s.rxdma.ndtr ∧
      (1 ≤ (s.cfg.cap - s.rxdma.ndtr).toNat ∧ declared ≤ (s.cfg.cap - s.rxdma.ndtr).toNat →
        t.rxstatus = .completedOk ∧ t.cnt.idle = (s.cnt.idle + 1) % 2 ^ s.cfg.cntW ∧
        t.cnt.badidle = s.cnt.badidle) ∧
      (¬ (1 ≤ (s.cfg.cap - s.rxdma.ndtr).toNat ∧ declared ≤ (s.cfg.cap - s.rxdma.ndtr).toNat) →
        t.rxstatus = .completedError ∧ t.cnt.badidle = (s.cnt.badidle + 1) % 2 ^ s.cfg.cntW ∧
        t.cnt.idle = s.cnt.idle) ∧
      Frame [.cntIdle, .cntBadidle, .rxlen, .rxstatus, .sig, .dmar, .dmat, .rxEn, .txEn, .rxne, .ore, .ne, .fe,
        .idleFlag] s t) ∧
  (∀ s : State, enabled s .uartIrq = true → s.uart.ore = false → s.uart.ne = false → s.uart.fe = false →
    s.rxstatus = .waiting → s.cfg.cap = s.rxdma.ndtr →
    ∃ t, exec .uartIrq s = .next t ∧ t.rxstatus = .completedError ∧ t.rxlen = 0 ∧ t.sig = s.sig + 1 ∧
      t.cnt.badidle = (s.cnt.badidle + 1) % 2 ^ s.cfg.cntW ∧ Stopped t ∧ FlagsClear t) ∧
  (∀ (s : State) (i : Nat), enabled s .uartIrq = true → s.uart.ore = false → s.uart.ne = false →
    s.uart.fe = false → s.rxstatus = .waiting → s.cfg.cap ≠ s.rxdma.ndtr →
    s.frameLen = .error (.unwrittenBuffer i) → exec .uartIrq s = .fault (.unwrittenBuffer i))

/-! ### Platform agents and clock -/

/-- R270. -/
def Obligations.LineRxDeliversOrOverruns : Prop :=
  (∀ b : Byte, HasWord (.lineRx b false false) [0x50, b] ∧ HasWord (.lineRx b true false) [0x51, b] ∧
    HasWord (.lineRx b false true) [0x52, b] ∧ HasWord (.lineRx b true true) [0x53, b]) ∧
  (∀ (s : State) (b : Byte) (ne fe : Bool), s.uart.ue = true → s.uart.re = true →
    ∃ t, exec (.lineRx b ne fe) s = .next t ∧ t.uart.rxne = true ∧
      t.uart.ne = (s.uart.ne || ne) ∧ t.uart.fe = (s.uart.fe || fe) ∧
      (s.uart.rxne = false → t.uart.rdr = b ∧ t.uart.ore = s.uart.ore) ∧
      (s.uart.rxne = true → t.uart.rdr = s.uart.rdr ∧ t.uart.ore = true) ∧
      Frame [.rdr, .rxne, .ore, .ne, .fe] s t) ∧
  (∀ (s : State) (b : Byte) (ne fe : Bool), s.uart.ue = false ∨ s.uart.re = false →
    exec (.lineRx b ne fe) s = .refused (.notEnabled (.lineRx b ne fe)))

/-- R271, with its example: an attached and enabled idle-line interrupt becomes requested. -/
def Obligations.LineIdleSetsTheFlag : Prop :=
  HasWord .lineIdle [0x54] ∧
  (∀ s : State, s.uart.ue = true → s.uart.re = true →
    ∃ t, exec .lineIdle s = .next t ∧ t.uart.idle = true ∧ Frame [.idleFlag] s t ∧
      (s.irqAttached = true → s.uart.idleie = true → enabled t .uartIrq = true)) ∧
  (∀ s : State, s.uart.ue = false ∨ s.uart.re = false → exec .lineIdle s = .refused (.notEnabled .lineIdle))

/-- R272: the byte goes to `BUF[LEN - NDTR]`; the count steps down; at the programmed length the event is raised once
and a circular channel reloads, any other stops. -/
def Obligations.DmaRxXferStoresOneByte : Prop :=
  HasWord .dmaRxXfer [0x56] ∧
  (∀ s : State, enabled s .dmaRxXfer = true → s.rxIndex < s.cfg.cap.toNat →
    ∃ t, exec .dmaRxXfer s = .next t ∧ Memory.read t.mem s.rxIndex = some s.uart.rdr ∧ t.uart.rxne = false ∧
      (s.rxdma.ndtr ≠ 1 → t.rxdma.ndtr = s.rxdma.ndtr - 1 ∧ t.rxdma.en = s.rxdma.en ∧ t.cbpend = s.cbpend) ∧
      (s.rxdma.ndtr = 1 → s.rxdma.circ = true → t.rxdma.ndtr = s.rxdma.len ∧ t.rxdma.en = s.rxdma.en) ∧
      (s.rxdma.ndtr = 1 → s.rxdma.circ = false → t.rxdma.ndtr = 0 ∧ t.rxdma.en = false) ∧
      (s.rxdma.ndtr = 1 → s.rxdma.cb = true → s.cbpend = none → t.cbpend = some false) ∧
      (s.rxdma.ndtr = 1 → s.rxdma.cb = false ∨ s.cbpend ≠ none → t.cbpend = s.cbpend) ∧
      (∀ a, a ≠ s.rxIndex → Memory.read t.mem a = Memory.read s.mem a) ∧
      Frame [.buf s.rxIndex, .rxne, .rxNdtr, .cbpend, .rxEn] s t) ∧
  (∀ s : State, enabled s .dmaRxXfer = false → exec .dmaRxXfer s = .refused (.notEnabled .dmaRxXfer))

/-- R273: the byte is `BUF[LEN - NDTR]` as it is at this moment; there is no completion event; the channel stops by
itself at the end. -/
def Obligations.DmaTxXferMovesOneByte : Prop :=
  HasWord .dmaTxXfer [0x57] ∧
  (∀ (s : State) (b : Byte), enabled s .dmaTxXfer = true → s.txIndex < s.cfg.cap.toNat →
    Memory.read s.mem s.txIndex = some b →
    ∃ t, exec .dmaTxXfer s = .next t ∧ t.uart.tdr = b ∧ t.uart.txe = false ∧
      t.txdma.ndtr.toNat + 1 = s.txdma.ndtr.toNat ∧
      (s.txdma.ndtr = 1 → t.txdma.en = false) ∧ (s.txdma.ndtr ≠ 1 → t.txdma.en = true) ∧
      Frame [.tdr, .txe, .txNdtr, .txEn] s t) ∧
  (∀ s : State, enabled s .dmaTxXfer = true → s.txIndex < s.cfg.cap.toNat → Memory.read s.mem s.txIndex = none →
    exec .dmaTxXfer s = .fault (.unwrittenBuffer s.txIndex)) ∧
  (∀ s : State, enabled s .dmaTxXfer = false → exec .dmaTxXfer s = .refused (.notEnabled .dmaTxXfer))

/-- R274: the holding register goes on the line, in order, each byte once, also when the channel has been stopped. -/
def Obligations.LineTxSendsTheHoldingRegister : Prop :=
  HasWord .lineTx [0x55] ∧
  (∀ s : State, s.uart.txe = false → s.uart.ue = true → s.uart.te = true →
    ∃ t, exec .lineTx s = .next t ∧ t.txout = s.txout ++ [s.uart.tdr] ∧ t.uart.txe = true ∧
      Frame [.txout, .txe] s t) ∧
  (∀ s : State, s.uart.txe = true ∨ s.uart.ue = false ∨ s.uart.te = false →
    exec .lineTx s = .refused (.notEnabled .lineTx))

/-- R275: the channel disables itself; the error event overrides a pending success. -/
def Obligations.DmaFaultRaisesAnErrorEvent : Prop :=
  HasWord .dmaFault [0x58] ∧
  (∀ s : State, s.rxdma.en = true →
    ∃ t, exec .dmaFault s = .next t ∧ t.rxdma.en = false ∧ t.cbpend = some true ∧ Frame [.rxEn, .cbpend] s t) ∧
  (∀ s : State, s.rxdma.en = false → exec .dmaFault s = .refused (.notEnabled .dmaFault))

/-- R254: time advances by the operand and nothing else changes, and no other operation writes `NOW`; the word holds a
little-endian count. -/
def Obligations.TickAdvancesTheClock : Prop :=
  (∀ lo hi : Byte, HasWord (.tick (tickOperand lo hi)) [0x59, lo, hi] ∧
    (tickOperand lo hi).toNat = lo.toNat + 256 * hi.toNat) ∧
  (∀ (s : State) (d : Time), ∃ t, exec (.tick d) s = .next t ∧ t.now = s.now + d ∧ Frame [.now] s t) ∧
  (∀ s : State, exec (.tick 0) s = .next s) ∧
  (∀ (i : Instr) (s t : State), (∀ d, i ≠ .tick d) → exec i s = .next t → t.now = s.now)

/-! ### The CRC validator -/

/-- R234 and R232: the verdict on a frame that lies in the buffer, byte by byte, for any checksum function, size
accessor and corrupt marker; a declared length that can hold no frame is bad; a byte of the frame without a value
faults. -/
def Obligations.CrcCheckVerdict : Prop :=
  (∀ (s : State) (frame : List Byte), s.frameLen = .ok frame.length → 4 ≤ frame.length →
    frame.length ≤ s.cfg.cap.toNat → (∀ i, i < frame.length → Memory.read s.mem i = frame[i]?) →
    s.crcCheck = .ok (if frame[frame.length - 1]? = some (s.crc8 (frame.take (frame.length - 1) ++ [0x00])) ∧
      (frame[2]?).map s.isCorrupt = some false then .good else .bad)) ∧
  (∀ (s : State) (len : Nat), s.frameLen = .ok len → len < 4 ∨ s.cfg.cap.toNat < len → s.crcCheck = .ok .bad) ∧
  (∀ (s : State) (len : Nat), s.frameLen = .ok len → 4 ≤ len → len ≤ s.cfg.cap.toNat →
    (∃ i, i < len ∧ Memory.read s.mem i = none) →
    ∃ j, j < len ∧ Memory.read s.mem j = none ∧ s.crcCheck = .error (.unwrittenBuffer j))

/-- R101 and R74: the reference size accessor reads bytes 0 and 1, low byte first. The two clauses on a byte without value
(R73) hold for every instance because of the model's choices: any other instance reads the three header bytes (log 2), and
they are read in rising order, which decides the index named when several hold no value (log 21). -/
def Obligations.FrameLenReadsTheSizeField : Prop :=
  (∀ (s : State) (b0 b1 : Byte), s.cfg.wf = true → s.cfg.frameLen = .reference → Memory.read s.mem 0 = some b0 →
    Memory.read s.mem 1 = some b1 → s.frameLen = .ok (b0.toNat + 256 * b1.toNat)) ∧
  (∀ s : State, s.cfg.wf = true → Memory.read s.mem 0 = none → s.frameLen = .error (.unwrittenBuffer 0)) ∧
  (∀ (s : State) (b0 : Byte), s.cfg.wf = true → Memory.read s.mem 0 = some b0 → Memory.read s.mem 1 = none →
    s.frameLen = .error (.unwrittenBuffer 1))

/-- R236: the reference checksum is linear for lists of equal length, and leading zero bytes do not change it;
a frame followed by its checksum leaves no zero residue. -/
def Obligations.ReferenceCrcIsLinear : Prop :=
  (∀ a b : List Byte, a.length = b.length →
    crc8Ref (List.zipWith (fun x y => x ^^^ y) a b) = crc8Ref a ^^^ crc8Ref b) ∧
  (∀ (n : Nat) (bs : List Byte), crc8Ref (List.replicate n 0x00 ++ bs) = crc8Ref bs) ∧
  crc8Ref [0x06, 0x00, 0x00, 0xAA, 0xBB, 0xE1] = 0x48

/-- R231: the table-driven form computes the same function as the bit-by-bit algorithm, each entry `T[i]` is
the checksum of the one byte `i`, and the check values hold. -/
def Obligations.CrcTableComputesTheReference : Prop :=
  (∀ bs : List Byte, crc8Table bs = crc8Ref bs) ∧ (∀ i : Byte, crcTableAt i = crc8Ref [i]) ∧
  crc8Ref [] = 0x00 ∧ crc8Ref [0x01] = 0x07 ∧ crc8Ref [0x80] = 0x89 ∧ crc8Ref [0xFF] = 0xF3 ∧
  crc8Ref [0x31, 0x32, 0x33, 0x34, 0x35, 0x36, 0x37, 0x38, 0x39] = 0xF4 ∧ crc8Ref [0x00, 0x00, 0x00, 0x00] = 0x00

/-! ### The whole machine -/

/-- Every operation that takes a step leaves everything but its rule's "State written" line unchanged. -/
def Obligations.FrameOfEveryOperation : Prop :=
  ∀ (i : Instr) (s t : State), exec i s = .next t → Frame (writes s i) s t

/-- The fields of a frame are the whole state: a frame that writes nothing leaves equal states, memory in its canonical
form. -/
def Obligations.EmptyFrameMeansEqual : Prop :=
  ∀ s t : State, Memory.wf s.mem = true → Memory.wf t.mem = true → Frame [] s t → t = s

/-- R12 and R318: an operation is refused exactly when its guard is false, and then under the name R318 gives. -/
def Obligations.RefusedExactlyWhenNotEnabled : Prop :=
  ∀ (i : Instr) (s : State) (r : Refusal), exec i s = .refused r ↔ enabled s i = false ∧ r = refusalOf i

/-- R318 (its two faults): where the machine can fault and on what; in a state that meets the DMA invariant no access
leaves the buffer (R71). -/
def Obligations.FaultsOnlyWhereNamed : Prop :=
  (∀ (i : Instr) (s : State) (k : Nat), exec i s = .fault (.unwrittenBuffer k) →
    Memory.read s.mem k = none ∧
      ((∃ a, i = .bufrd a) ∨ i = .xs7 ∨ i = .dmaTxXfer ∨ i = .uartIrq ∨ i = .xs12)) ∧
  (∀ (i : Instr) (s : State) (len : Nat), exec i s = .fault (.txLenOutOfRange len) →
    i = .xs7 ∧ s.frameLen = .ok len ∧ (len < 1 ∨ s.cfg.cap.toNat < len)) ∧
  (∀ (i : Instr) (s : State) (k : Nat), DmaInv s → exec i s ≠ .fault (.bufferRange k))

/-- R22 and R176: `SEQ` moves only along the rows of the table, each by its own operation; every other operation leaves
it. -/
def Obligations.SequencerFollowsTheTable : Prop :=
  ∀ (i : Instr) (s t : State), exec i s = .next t →
    (SeqEdge.mk s.seq i t.seq ∈ seqTable) ∨ (t.seq = s.seq ∧ i ≠ .exchange ∧ i.agent ≠ .sequencer)

/-- R46 is kept by every step, from every state, with the clause that makes it inductive. -/
def Obligations.SessionInvariantKept : Prop :=
  ∀ s t : State, SessionInv s → step s = .next t → SessionInv t

/-- R21, R28, R33, R140, R312, R341, R357: the lifecycle invariant is kept by every step from a state that meets it and the
session invariant. -/
def Obligations.LifecycleInvariantKept : Prop :=
  ∀ s t : State, SessionInv s → LifecycleInv s → step s = .next t → LifecycleInv t

/-- R70, R71, R216: the DMA invariant is kept by every step. -/
def Obligations.DmaInvariantKept : Prop :=
  ∀ s t : State, DmaInv s → step s = .next t → DmaInv t

/-- Memory keeps its canonical form (the model's, log 7), and counters stay below `2^CNT_W` (R41). -/
def Obligations.MemoryFormAndCounterWidthKept : Prop :=
  ∀ s t : State, step s = .next t →
    (Memory.wf s.mem = true → Memory.wf t.mem = true) ∧ (CountersFit s → CountersFit t)

/-- Every invariant holds after reset, whatever the parameters and the trace. -/
def Obligations.InvariantsHoldAtReset : Prop :=
  ∀ (cfg : Config) (tr : List Byte), cfg.wf = true →
    SessionInv { State.resetWith cfg with trace := tr } ∧ LifecycleInv { State.resetWith cfg with trace := tr } ∧
    DmaInv { State.resetWith cfg with trace := tr } ∧ CountersFit { State.resetWith cfg with trace := tr } ∧
    Memory.wf (State.resetWith cfg).mem = true ∧ Stopped (State.resetWith cfg)

/-- R46: the invariants (a) to (e) hold in every state reachable from reset, by any trace, for any parameters. -/
def Obligations.ReachableStatesMeetSessionRules : Prop :=
  ∀ s : State, Reachable s → SessionRules s

/-- R340: the reset values of the table. `RDR` and `TDR`, which hold no value there, are not spoken of (log 4). -/
def Obligations.ResetValues : Prop :=
  ∀ cfg : Config, ∃ s : State, s = State.resetWith cfg ∧ State.reset = State.resetWith Config.reference ∧
    s.inited = false ∧ s.seq = .idle ∧ s.rxstatus = .inactive ∧
    s.deadline = 0 ∧ s.sleepUntil = 0 ∧ s.txlen = 0 ∧ s.rxlen = 0 ∧ s.perfT0 = 0 ∧ s.durLast = 0 ∧
    s.sig = 0 ∧ s.crit = false ∧ s.outcome = .none ∧ s.result.code = 0 ∧ s.resultValid = false ∧
    s.initResult = .notRun ∧ s.perfActive = false ∧ FlagsClear s ∧ s.uart.txe = true ∧ s.uart.sr = 0x80 ∧
    s.uart.brr = 0 ∧ s.uart.cr1 = 0 ∧ s.uart.cr2 = 0 ∧ s.uart.cr3 = 0 ∧ s.irqAttached = false ∧
    (∀ a, Memory.read s.mem a = none) ∧
    s.rxdma = ⟨false, false, 0, 0, false⟩ ∧ s.cbpend = none ∧ s.txdma = ⟨false, 0, 0⟩ ∧
    (∀ c : Counter, s.cnt.get c = 0) ∧ s.now = 0 ∧ s.txout = []

/-- R341: after reset the only operations that take a step are `INIT`, `BUFWR` into the buffer and `TICK`; `BUFRD` is
enabled and faults, no byte having been written; until an operation is issued nothing happens, which the model shows as
a step that idles on an empty trace (the model's choice, log 5). -/
def Obligations.EnabledAfterReset : Prop :=
  ∀ (cfg : Config) (i : Instr), cfg.wf = true →
    ((∃ t, exec i (State.resetWith cfg) = .next t) ↔
      i = .init ∨ (∃ a d, i = .bufwr a d ∧ a.toNat < cfg.cap.toNat) ∨ ∃ d, i = .tick d) ∧
    ((∃ f, exec i (State.resetWith cfg) = .fault f) ↔ ∃ a, i = .bufrd a ∧ a.toNat < cfg.cap.toNat) ∧
    (State.resetWith cfg).mode = .uninitialised ∧ (State.resetWith cfg).irqRequest = false ∧
    (State.resetWith cfg).rxdma.cb = false ∧ (State.resetWith cfg).crit = false ∧
    step (State.resetWith cfg) = .next (State.resetWith cfg)

/-- R197 and R84: a post is made only by a handler, only while the session is `Waiting`, one at a time, and takes the
session out of `Waiting` with both channels stopped; the timeout posts nothing. -/
def Obligations.PostOnlyFromWaiting : Prop :=
  ∀ (i : Instr) (s t : State), exec i s = .next t → s.sig < t.sig →
    t.sig = s.sig + 1 ∧ s.rxstatus = .waiting ∧ (t.rxstatus = .completedOk ∨ t.rxstatus = .completedError) ∧
    Stopped t ∧ i.agent.context = .interrupt

/-- R178: when an execution that starts stopped and idle has returned to `IDLE`, the session is inactive, nothing is
posted, the critical section is left and, no completion having been accepted before `XS8` ran, both channels are
stopped and both request lines off. -/
def Obligations.ReturnLeavesChannelsStopped : Prop :=
  ∀ (is : List Instr) (s t : State), SessionInv s → s.seq = .idle → Stopped s → Along xs8FindsWaiting s is →
    runOps s is = .next t → t.seq = .idle →
    t.rxstatus = .inactive ∧ t.sig = 0 ∧ t.crit = false ∧ Stopped t

/-- R361 (row HZ1): under `A_NO_EARLY_EVENT` and `A_PROMPT_CB` no completion is accepted before `XS8` runs, so every
return leaves the channels stopped. -/
def Obligations.ScheduleAssumptionsExcludeHz1 : Prop :=
  ∀ (is : List Instr) (s t : State), SessionInv s → s.seq = .idle → Stopped s →
    Along noEarlyEvent s is → Along promptCb s is → runOps s is = .next t → t.seq = .idle → Stopped t

/-- R177: an enabled sequencer step stays enabled until it runs, but that a post turns the timeout off and the posted
wake on; for no other agent writes `SEQ`, `NOW` only grows, and other agents only raise `SIG`. And progress: in every
infinite execution that is fair to the sequencer and to `TICK`, every exchange ends, whatever the other agents do. The
clock must not wrap (R42); on a 64-bit clock, "`NOW` grows without bound" is read as in log 22 (the model's reading). -/
def Obligations.EnabledSequencerStepPersists : Prop :=
  (∀ (i j : Instr) (s t : State), i.agent = .sequencer → enabled s i = true → j ≠ i → exec j s = .next t →
    (∀ d, j = .tick d → s.now.toNat + d.toNat < 2 ^ 64) →
    enabled t i = true ∨ (i = .xs10t ∧ enabled t .xs10p = true)) ∧
  (∀ (j : Instr) (s t : State), s.seq ≠ .idle → j.agent ≠ .sequencer → exec j s = .next t →
    (∀ d, j = .tick d → s.now.toNat + d.toNat < 2 ^ 64) →
    t.seq = s.seq ∧ s.now.toNat ≤ t.now.toNat ∧ s.sig ≤ t.sig) ∧
  (∀ (σ : Nat → State) (op : Nat → Instr), Execution σ op → SequencerFair σ op → TickFair σ → ClockNeverWraps σ op →
    ∀ n, ∃ m, n ≤ m ∧ (σ m).seq = .idle)

/-- R171, R172, R251 with D0's scenario S4: a wait that nothing answers can end, and ends in `Timeout` with the channels
stopped, one timeout counted, no transaction counted and no sample recorded, not before the deadline and the sleep have
passed. -/
def Obligations.UnansweredWaitReturnsTimeout : Prop :=
  ∀ (s : State) (d : Time), SessionInv s → LifecycleInv s → s.seq = .wait → s.sig = 0 →
    s.now.toNat + d.toNat + s.cfg.sleepTicks.toNat < 2 ^ 64 → s.deadline.toNat ≤ s.now.toNat + d.toNat →
    ∃ t, runOps s [.tick d, .xs10t, .tick s.cfg.sleepTicks, .xs10s, .xs11, .xs12, .xs13] = .next t ∧
      t.seq = .idle ∧ t.result = .timeout ∧ t.resultValid = true ∧ Stopped t ∧ t.rxstatus = .inactive ∧
      t.sig = 0 ∧ t.crit = false ∧ t.cnt.timeout = (s.cnt.timeout + 1) % 2 ^ s.cfg.cntW ∧
      t.cnt.txn = s.cnt.txn ∧ t.durLast = s.durLast ∧
      t.now.toNat = s.now.toNat + d.toNat + s.cfg.sleepTicks.toNat ∧
      (∀ a, Memory.read t.mem a = Memory.read s.mem a)

/-- R300, R308(e), R237: once a completion has been accepted the four remaining steps return exactly one result: a
completion with error gives `ProtocolError`; one without gives `Success` exactly when the frame in the buffer passes the
check. -/
def Obligations.AcceptedCompletionDecidesTheResult : Prop :=
  ∀ s : State, SessionInv s → LifecycleInv s → s.seq = .wait → s.sig = 1 →
    (s.rxstatus = .completedError →
      ∃ t, runOps s [.xs10p, .xs11, .xs12, .xs13] = .next t ∧ t.seq = .idle ∧ t.resultValid = true ∧
        t.result = .protocolError ∧ t.cnt.dmaerr = (s.cnt.dmaerr + 1) % 2 ^ s.cfg.cntW ∧ t.cnt.crc = s.cnt.crc ∧
        t.cnt.txn = (s.cnt.txn + 1) % 2 ^ s.cfg.cntW ∧ t.durLast = s.now - s.perfT0) ∧
    (∀ v, s.rxstatus = .completedOk → s.crcCheck = .ok v →
      ∃ t, runOps s [.xs10p, .xs11, .xs12, .xs13] = .next t ∧ t.seq = .idle ∧ t.resultValid = true ∧
        (t.result = .success ↔ v = .good) ∧ (t.result = .protocolError ↔ v = .bad) ∧
        t.cnt.dmaerr = s.cnt.dmaerr ∧ (v = .bad → t.cnt.crc = (s.cnt.crc + 1) % 2 ^ s.cfg.cntW) ∧
        t.cnt.txn = (s.cnt.txn + 1) % 2 ^ s.cfg.cntW ∧ t.durLast = s.now - s.perfT0)

/-- R343 and R33: nothing undoes a successful `INIT`: `INITED`, the enables and the attachment stay set. -/
def Obligations.NoTeardown : Prop :=
  ∀ s t : State, step s = .next t → s.inited = true →
    t.inited = true ∧ t.uart.ue = s.uart.ue ∧ t.uart.te = s.uart.te ∧ t.uart.re = s.uart.re ∧
    t.uart.idleie = s.uart.idleie ∧ t.uart.eie = s.uart.eie ∧ t.irqAttached = s.irqAttached ∧ t.cfg = s.cfg

/-- R85: the contents of `BUF` steer control only in `XS7`, `UART_IRQ` and `XS12`. For every operation other than these
and than the two that move a byte out (`BUFRD`, `DMA_TX_XFER`), two states that differ in the buffer alone step alike,
and differ afterwards in the buffer alone. -/
def Obligations.BufferSteersNothingElse : Prop :=
  ∀ (i : Instr) (s s' : State), SameButBuf s s' → i ≠ .xs7 → i ≠ .uartIrq → i ≠ .xs12 → (∀ a, i ≠ .bufrd a) →
    i ≠ .dmaTxXfer →
    (∀ t, exec i s = .next t → ∃ t', exec i s' = .next t' ∧ SameButBuf t t') ∧
    (∀ r, exec i s = .refused r → exec i s' = .refused r)
end

