-- ==== Sys2Proof/Laws/Memory.lean ====
section
/-! SUPPORT. The laws of the packet buffer's memory: a read after a write, that a write keeps the canonical form,
and that canonical memories with the same bytes are equal. -/

namespace Sys2Proof.Machine

/-! ### Read after write -/

theorem Memory.read_write (m : Memory) (a : Nat) (b : Byte) (c : Nat) :
    Memory.read (Memory.write m a b) c = if a = c then some b else Memory.read m c := by
  induction m with
  | nil => simp [Memory.write, Memory.read]
  | cons e m ih =>
    obtain ⟨k, v⟩ := e
    simp only [Memory.write]
    split
    · simp [Memory.read]
    · split
      · simp only [Memory.read]; split <;> simp_all
      · simp only [Memory.read, ih]
        split <;> split <;> first | rfl | omega

@[simp] theorem Memory.read_write_same (m : Memory) (a : Nat) (b : Byte) :
    Memory.read (Memory.write m a b) a = some b := by simp [Memory.read_write]

theorem Memory.read_write_other (m : Memory) (a : Nat) (b : Byte) (c : Nat) (h : a ≠ c) :
    Memory.read (Memory.write m a b) c = Memory.read m c := by simp [Memory.read_write, h]

@[simp] theorem Memory.read_nil (a : Nat) : Memory.read [] a = none := rfl

/-! ### The canonical form -/

/-- A bound on the first index bounds every listed index. -/
theorem Memory.read_none_of_le (m : Memory) (lo a : Nat) (h : Memory.risesFrom (some lo) m = true) (ha : a ≤ lo) :
    Memory.read m a = none := by
  induction m generalizing lo with
  | nil => rfl
  | cons e m ih =>
    obtain ⟨k, v⟩ := e
    simp only [Memory.risesFrom, Bool.and_eq_true, decide_eq_true_eq] at h
    simp only [Memory.read]
    rw [if_neg (by omega), ih k h.2 (by omega)]

/-- A lower bound can be dropped. -/
theorem Memory.risesFrom_none (m : Memory) (lo : Nat) (h : Memory.risesFrom (some lo) m = true) :
    Memory.risesFrom none m = true := by
  cases m with
  | nil => rfl
  | cons e m => simp_all [Memory.risesFrom]

theorem Memory.risesFrom_write (m : Memory) (lo a : Nat) (b : Byte) (h : Memory.risesFrom (some lo) m = true)
    (ha : lo < a) : Memory.risesFrom (some lo) (Memory.write m a b) = true := by
  induction m generalizing lo with
  | nil => simp [Memory.write, Memory.risesFrom, ha]
  | cons e m ih =>
    obtain ⟨k, v⟩ := e
    simp only [Memory.risesFrom, Bool.and_eq_true, decide_eq_true_eq] at h
    simp only [Memory.write]
    split
    · simp [Memory.risesFrom, h.2, *]
    · split
      · subst_vars; simp [Memory.risesFrom, h.1, h.2]
      · simp [Memory.risesFrom, h.1, ih k h.2 (by omega)]

/-- A write keeps the canonical form. -/
theorem Memory.wf_write (m : Memory) (a : Nat) (b : Byte) (h : Memory.wf m = true) :
    Memory.wf (Memory.write m a b) = true := by
  cases m with
  | nil => rfl
  | cons e m =>
    obtain ⟨k, v⟩ := e
    simp only [Memory.wf, Memory.risesFrom] at h
    simp only [Memory.wf, Memory.write]
    split
    · simp [Memory.risesFrom, *]
    · split
      · subst_vars; simpa [Memory.risesFrom] using h
      · exact Memory.risesFrom_write m k a b h (by omega)

/-- Canonical memories that read alike are equal. -/
theorem Memory.ext_of_read (m n : Memory) (hm : Memory.wf m = true) (hn : Memory.wf n = true)
    (h : ∀ a, Memory.read m a = Memory.read n a) : m = n := by
  induction m generalizing n with
  | nil =>
    cases n with
    | nil => rfl
    | cons e n => simpa [Memory.read] using h e.1
  | cons e m ih =>
    obtain ⟨k, v⟩ := e
    cases n with
    | nil => simpa [Memory.read] using h k
    | cons e' n =>
      obtain ⟨k', v'⟩ := e'
      simp only [Memory.wf, Memory.risesFrom] at hm hn
      have hk : k = k' := by
        have h1 := h k
        have h2 := h k'
        simp only [Memory.read] at h1 h2
        rcases Nat.lt_trichotomy k k' with hlt | heq | hgt
        · rw [if_pos trivial, if_neg (by omega), Memory.read_none_of_le n k' k hn (by omega)] at h1
          simp at h1
        · exact heq
        · rw [if_pos trivial, if_neg (by omega), Memory.read_none_of_le m k k' hm (by omega)] at h2
          simp at h2
      subst hk
      have hv : v = v' := by simpa [Memory.read] using h k
      subst hv
      congr 1
      refine ih n (Memory.risesFrom_none m k hm) (Memory.risesFrom_none n k hn) fun a => ?_
      by_cases ha : a ≤ k
      · rw [Memory.read_none_of_le m k a hm ha, Memory.read_none_of_le n k a hn ha]
      · have := h a
        simpa only [Memory.read, if_neg (show k ≠ a by omega)] using this

/-- Memory after reset lists nothing and is canonical. -/
theorem State.resetWith_mem_wf (cfg : Config) : Memory.wf (State.resetWith cfg).mem = true := rfl

/-! ### The block's accesses -/

theorem State.bufRead_ok (s : State) (i : Nat) (b : Byte) (hi : i < s.cfg.cap.toNat)
    (h : Memory.read s.mem i = some b) : s.bufRead i = .ok b := by simp [State.bufRead, hi, h]

theorem State.bufRead_unwritten (s : State) (i : Nat) (hi : i < s.cfg.cap.toNat) (h : Memory.read s.mem i = none) :
    s.bufRead i = .error (.unwrittenBuffer i) := by simp [State.bufRead, hi, h]

theorem State.bufRead_outside (s : State) (i : Nat) (hi : s.cfg.cap.toNat ≤ i) :
    s.bufRead i = .error (.bufferRange i) := by simp [State.bufRead, Nat.not_lt.mpr hi]

/-- What a read answers: the byte listed, or one of the two faults. -/
theorem State.bufRead_cases (s : State) (i : Nat) :
    (∃ b, Memory.read s.mem i = some b ∧ i < s.cfg.cap.toNat ∧ s.bufRead i = .ok b) ∨
    (Memory.read s.mem i = none ∧ i < s.cfg.cap.toNat ∧ s.bufRead i = .error (.unwrittenBuffer i)) ∨
    (s.cfg.cap.toNat ≤ i ∧ s.bufRead i = .error (.bufferRange i)) := by
  by_cases hi : i < s.cfg.cap.toNat
  · cases h : Memory.read s.mem i with
    | none => exact .inr (.inl ⟨rfl, hi, State.bufRead_unwritten s i hi h⟩)
    | some b => exact .inl ⟨b, rfl, hi, State.bufRead_ok s i b hi h⟩
  · exact .inr (.inr ⟨by omega, State.bufRead_outside s i (by omega)⟩)

theorem State.bufWrite_ok (s : State) (i : Nat) (b : Byte) (hi : i < s.cfg.cap.toNat) :
    s.bufWrite i b = .ok { s with mem := Memory.write s.mem i b } := by simp [State.bufWrite, hi]

theorem State.bufWrite_outside (s : State) (i : Nat) (b : Byte) (hi : s.cfg.cap.toNat ≤ i) :
    s.bufWrite i b = .error (.bufferRange i) := by simp [State.bufWrite, Nat.not_lt.mpr hi]

/-- A run of written bytes inside the buffer is read whole. -/
theorem State.memRead_ok (s : State) (i : Nat) (bs : List Byte) (hi : i + bs.length ≤ s.cfg.cap.toNat)
    (h : ∀ k, k < bs.length → Memory.read s.mem (i + k) = bs[k]?) : s.memRead i bs.length = .ok bs := by
  induction bs generalizing i with
  | nil => rfl
  | cons b bs ih =>
    have h0 : Memory.read s.mem i = some b := by simpa using h 0 (by simp)
    simp only [List.length_cons] at hi
    have hr := ih (i + 1) (by omega) fun k hk => by
      have := h (k + 1) (by simp; omega)
      simpa [Nat.add_assoc, Nat.add_comm 1 k] using this
    simp [State.memRead, State.bufRead_ok s i b (by omega) h0, hr]

/-- What `MemRead` answers inside the buffer: all the bytes, or a fault at a byte that holds no value. -/
theorem State.memRead_cases (s : State) (i n : Nat) (hi : i + n ≤ s.cfg.cap.toNat) :
    (∃ bs, s.memRead i n = .ok bs ∧ bs.length = n ∧ ∀ k, k < n → Memory.read s.mem (i + k) = bs[k]?) ∨
    (∃ j, i ≤ j ∧ j < i + n ∧ Memory.read s.mem j = none ∧ s.memRead i n = .error (.unwrittenBuffer j)) := by
  induction n generalizing i with
  | zero => exact .inl ⟨[], rfl, rfl, fun k hk => by omega⟩
  | succ n ih =>
    rcases s.bufRead_cases i with ⟨b, hb, _, hr⟩ | ⟨hb, _, hr⟩ | ⟨hc, _⟩
    · rcases ih (i + 1) (by omega) with ⟨bs, h1, h2, h3⟩ | ⟨j, h1, h2, h3, h4⟩
      · refine .inl ⟨b :: bs, by simp [State.memRead, hr, h1], by simp [h2], fun k hk => ?_⟩
        cases k with
        | zero => simpa using hb
        | succ k => simpa [Nat.add_assoc, Nat.add_comm 1 k] using h3 k (by omega)
      · exact .inr ⟨j, by omega, by omega, h3, by simp [State.memRead, hr, h4]⟩
    · exact .inr ⟨i, by omega, by omega, hb, by simp [State.memRead, hr]⟩
    · omega

end Sys2Proof.Machine
end

