-- ==== Sys2Proof/Laws/State.lean ====
section
/-! SUPPORT. One lemma for each field and each named update of the state, so that no proof need unfold a record
update. -/

namespace Sys2Proof.Machine

/-! ### The identities -/

@[simp] theorem State.flushCache_eq (s : State) : s.flushCache = s := rfl
@[simp] theorem State.invalidateCache_eq (s : State) : s.invalidateCache = s := rfl
@[simp] theorem State.enterHandler_eq (s : State) : s.enterHandler = s := rfl
@[simp] theorem State.leaveHandler_eq (s : State) : s.leaveHandler = s := rfl

/-! ### The UART data register and the control registers -/

@[simp] theorem Uart.readDr_fst (u : Uart) : u.readDr.1 = u.rdr := rfl

@[simp] theorem Uart.readDr_ore (u : Uart) : (u.readDr.2).ore = u.ore := rfl
@[simp] theorem Uart.readDr_ne (u : Uart) : (u.readDr.2).ne = u.ne := rfl
@[simp] theorem Uart.readDr_fe (u : Uart) : (u.readDr.2).fe = u.fe := rfl
@[simp] theorem Uart.readDr_idle (u : Uart) : (u.readDr.2).idle = u.idle := rfl
@[simp] theorem Uart.readDr_rxne (u : Uart) : (u.readDr.2).rxne = false := rfl
@[simp] theorem Uart.readDr_txe (u : Uart) : (u.readDr.2).txe = u.txe := rfl
@[simp] theorem Uart.readDr_rdr (u : Uart) : (u.readDr.2).rdr = u.rdr := rfl
@[simp] theorem Uart.readDr_tdr (u : Uart) : (u.readDr.2).tdr = u.tdr := rfl
@[simp] theorem Uart.readDr_brr (u : Uart) : (u.readDr.2).brr = u.brr := rfl
@[simp] theorem Uart.readDr_ue (u : Uart) : (u.readDr.2).ue = u.ue := rfl
@[simp] theorem Uart.readDr_te (u : Uart) : (u.readDr.2).te = u.te := rfl
@[simp] theorem Uart.readDr_re (u : Uart) : (u.readDr.2).re = u.re := rfl
@[simp] theorem Uart.readDr_idleie (u : Uart) : (u.readDr.2).idleie = u.idleie := rfl
@[simp] theorem Uart.readDr_cr2 (u : Uart) : (u.readDr.2).cr2 = u.cr2 := rfl
@[simp] theorem Uart.readDr_eie (u : Uart) : (u.readDr.2).eie = u.eie := rfl
@[simp] theorem Uart.readDr_dmar (u : Uart) : (u.readDr.2).dmar = u.dmar := rfl
@[simp] theorem Uart.readDr_dmat (u : Uart) : (u.readDr.2).dmat = u.dmat := rfl
@[simp] theorem Uart.writeDr_ore (u : Uart) (b : Byte) : (u.writeDr b).ore = u.ore := rfl
@[simp] theorem Uart.writeDr_ne (u : Uart) (b : Byte) : (u.writeDr b).ne = u.ne := rfl
@[simp] theorem Uart.writeDr_fe (u : Uart) (b : Byte) : (u.writeDr b).fe = u.fe := rfl
@[simp] theorem Uart.writeDr_idle (u : Uart) (b : Byte) : (u.writeDr b).idle = u.idle := rfl
@[simp] theorem Uart.writeDr_rxne (u : Uart) (b : Byte) : (u.writeDr b).rxne = u.rxne := rfl
@[simp] theorem Uart.writeDr_txe (u : Uart) (b : Byte) : (u.writeDr b).txe = false := rfl
@[simp] theorem Uart.writeDr_rdr (u : Uart) (b : Byte) : (u.writeDr b).rdr = u.rdr := rfl
@[simp] theorem Uart.writeDr_tdr (u : Uart) (b : Byte) : (u.writeDr b).tdr = b := rfl
@[simp] theorem Uart.writeDr_brr (u : Uart) (b : Byte) : (u.writeDr b).brr = u.brr := rfl
@[simp] theorem Uart.writeDr_ue (u : Uart) (b : Byte) : (u.writeDr b).ue = u.ue := rfl
@[simp] theorem Uart.writeDr_te (u : Uart) (b : Byte) : (u.writeDr b).te = u.te := rfl
@[simp] theorem Uart.writeDr_re (u : Uart) (b : Byte) : (u.writeDr b).re = u.re := rfl
@[simp] theorem Uart.writeDr_idleie (u : Uart) (b : Byte) : (u.writeDr b).idleie = u.idleie := rfl
@[simp] theorem Uart.writeDr_cr2 (u : Uart) (b : Byte) : (u.writeDr b).cr2 = u.cr2 := rfl
@[simp] theorem Uart.writeDr_eie (u : Uart) (b : Byte) : (u.writeDr b).eie = u.eie := rfl
@[simp] theorem Uart.writeDr_dmar (u : Uart) (b : Byte) : (u.writeDr b).dmar = u.dmar := rfl
@[simp] theorem Uart.writeDr_dmat (u : Uart) (b : Byte) : (u.writeDr b).dmat = u.dmat := rfl
@[simp] theorem Uart.writeCr1_ore (u : Uart) (v : Word) : (u.writeCr1 v).ore = u.ore := rfl
@[simp] theorem Uart.writeCr1_ne (u : Uart) (v : Word) : (u.writeCr1 v).ne = u.ne := rfl
@[simp] theorem Uart.writeCr1_fe (u : Uart) (v : Word) : (u.writeCr1 v).fe = u.fe := rfl
@[simp] theorem Uart.writeCr1_idle (u : Uart) (v : Word) : (u.writeCr1 v).idle = u.idle := rfl
@[simp] theorem Uart.writeCr1_rxne (u : Uart) (v : Word) : (u.writeCr1 v).rxne = u.rxne := rfl
@[simp] theorem Uart.writeCr1_txe (u : Uart) (v : Word) : (u.writeCr1 v).txe = u.txe := rfl
@[simp] theorem Uart.writeCr1_rdr (u : Uart) (v : Word) : (u.writeCr1 v).rdr = u.rdr := rfl
@[simp] theorem Uart.writeCr1_tdr (u : Uart) (v : Word) : (u.writeCr1 v).tdr = u.tdr := rfl
@[simp] theorem Uart.writeCr1_brr (u : Uart) (v : Word) : (u.writeCr1 v).brr = u.brr := rfl
@[simp] theorem Uart.writeCr1_ue (u : Uart) (v : Word) : (u.writeCr1 v).ue = v.getLsbD 13 := rfl
@[simp] theorem Uart.writeCr1_te (u : Uart) (v : Word) : (u.writeCr1 v).te = v.getLsbD 3 := rfl
@[simp] theorem Uart.writeCr1_re (u : Uart) (v : Word) : (u.writeCr1 v).re = v.getLsbD 2 := rfl
@[simp] theorem Uart.writeCr1_idleie (u : Uart) (v : Word) : (u.writeCr1 v).idleie = v.getLsbD 4 := rfl
@[simp] theorem Uart.writeCr1_cr2 (u : Uart) (v : Word) : (u.writeCr1 v).cr2 = u.cr2 := rfl
@[simp] theorem Uart.writeCr1_eie (u : Uart) (v : Word) : (u.writeCr1 v).eie = u.eie := rfl
@[simp] theorem Uart.writeCr1_dmar (u : Uart) (v : Word) : (u.writeCr1 v).dmar = u.dmar := rfl
@[simp] theorem Uart.writeCr1_dmat (u : Uart) (v : Word) : (u.writeCr1 v).dmat = u.dmat := rfl
@[simp] theorem Uart.writeCr3_ore (u : Uart) (v : Word) : (u.writeCr3 v).ore = u.ore := rfl
@[simp] theorem Uart.writeCr3_ne (u : Uart) (v : Word) : (u.writeCr3 v).ne = u.ne := rfl
@[simp] theorem Uart.writeCr3_fe (u : Uart) (v : Word) : (u.writeCr3 v).fe = u.fe := rfl
@[simp] theorem Uart.writeCr3_idle (u : Uart) (v : Word) : (u.writeCr3 v).idle = u.idle := rfl
@[simp] theorem Uart.writeCr3_rxne (u : Uart) (v : Word) : (u.writeCr3 v).rxne = u.rxne := rfl
@[simp] theorem Uart.writeCr3_txe (u : Uart) (v : Word) : (u.writeCr3 v).txe = u.txe := rfl
@[simp] theorem Uart.writeCr3_rdr (u : Uart) (v : Word) : (u.writeCr3 v).rdr = u.rdr := rfl
@[simp] theorem Uart.writeCr3_tdr (u : Uart) (v : Word) : (u.writeCr3 v).tdr = u.tdr := rfl
@[simp] theorem Uart.writeCr3_brr (u : Uart) (v : Word) : (u.writeCr3 v).brr = u.brr := rfl
@[simp] theorem Uart.writeCr3_ue (u : Uart) (v : Word) : (u.writeCr3 v).ue = u.ue := rfl
@[simp] theorem Uart.writeCr3_te (u : Uart) (v : Word) : (u.writeCr3 v).te = u.te := rfl
@[simp] theorem Uart.writeCr3_re (u : Uart) (v : Word) : (u.writeCr3 v).re = u.re := rfl
@[simp] theorem Uart.writeCr3_idleie (u : Uart) (v : Word) : (u.writeCr3 v).idleie = u.idleie := rfl
@[simp] theorem Uart.writeCr3_cr2 (u : Uart) (v : Word) : (u.writeCr3 v).cr2 = u.cr2 := rfl
@[simp] theorem Uart.writeCr3_eie (u : Uart) (v : Word) : (u.writeCr3 v).eie = v.getLsbD 0 := rfl
@[simp] theorem Uart.writeCr3_dmar (u : Uart) (v : Word) : (u.writeCr3 v).dmar = v.getLsbD 6 := rfl
@[simp] theorem Uart.writeCr3_dmat (u : Uart) (v : Word) : (u.writeCr3 v).dmat = v.getLsbD 7 := rfl

/-! ### The shared operations -/

/-- The drain without its case distinction: reading the byte clears only what the clearing clears as well. -/
theorem State.drainAndClear_eq (s : State) : s.drainAndClear =
    { s with uart := { s.uart with rxne := false, ore := false, ne := false, fe := false, idle := false } } := by
  unfold State.drainAndClear
  split <;> rfl

@[simp] theorem State.drainAndClear_inited (s : State) : (s.drainAndClear).inited = s.inited :=
  by rw [State.drainAndClear_eq]
@[simp] theorem State.drainAndClear_seq (s : State) : (s.drainAndClear).seq = s.seq := by rw [State.drainAndClear_eq]
@[simp] theorem State.drainAndClear_rxstatus (s : State) : (s.drainAndClear).rxstatus = s.rxstatus :=
  by rw [State.drainAndClear_eq]
@[simp] theorem State.drainAndClear_sig (s : State) : (s.drainAndClear).sig = s.sig := by rw [State.drainAndClear_eq]
@[simp] theorem State.drainAndClear_crit (s : State) : (s.drainAndClear).crit = s.crit :=
  by rw [State.drainAndClear_eq]
@[simp] theorem State.drainAndClear_outcome (s : State) : (s.drainAndClear).outcome = s.outcome :=
  by rw [State.drainAndClear_eq]
@[simp] theorem State.drainAndClear_result (s : State) : (s.drainAndClear).result = s.result :=
  by rw [State.drainAndClear_eq]
@[simp] theorem State.drainAndClear_resultValid (s : State) : (s.drainAndClear).resultValid = s.resultValid :=
  by rw [State.drainAndClear_eq]
@[simp] theorem State.drainAndClear_initResult (s : State) : (s.drainAndClear).initResult = s.initResult :=
  by rw [State.drainAndClear_eq]
@[simp] theorem State.drainAndClear_perfActive (s : State) : (s.drainAndClear).perfActive = s.perfActive :=
  by rw [State.drainAndClear_eq]
@[simp] theorem State.drainAndClear_deadline (s : State) : (s.drainAndClear).deadline = s.deadline :=
  by rw [State.drainAndClear_eq]
@[simp] theorem State.drainAndClear_sleepUntil (s : State) : (s.drainAndClear).sleepUntil = s.sleepUntil :=
  by rw [State.drainAndClear_eq]
@[simp] theorem State.drainAndClear_txlen (s : State) : (s.drainAndClear).txlen = s.txlen :=
  by rw [State.drainAndClear_eq]
@[simp] theorem State.drainAndClear_rxlen (s : State) : (s.drainAndClear).rxlen = s.rxlen :=
  by rw [State.drainAndClear_eq]
@[simp] theorem State.drainAndClear_perfT0 (s : State) : (s.drainAndClear).perfT0 = s.perfT0 :=
  by rw [State.drainAndClear_eq]
@[simp] theorem State.drainAndClear_durLast (s : State) : (s.drainAndClear).durLast = s.durLast :=
  by rw [State.drainAndClear_eq]
@[simp] theorem State.drainAndClear_cnt (s : State) : (s.drainAndClear).cnt = s.cnt := by rw [State.drainAndClear_eq]
@[simp] theorem State.drainAndClear_mem (s : State) : (s.drainAndClear).mem = s.mem := by rw [State.drainAndClear_eq]
@[simp] theorem State.drainAndClear_uart_ore (s : State) : (s.drainAndClear).uart.ore = false :=
  by rw [State.drainAndClear_eq]
@[simp] theorem State.drainAndClear_uart_ne (s : State) : (s.drainAndClear).uart.ne = false :=
  by rw [State.drainAndClear_eq]
@[simp] theorem State.drainAndClear_uart_fe (s : State) : (s.drainAndClear).uart.fe = false :=
  by rw [State.drainAndClear_eq]
@[simp] theorem State.drainAndClear_uart_idle (s : State) : (s.drainAndClear).uart.idle = false :=
  by rw [State.drainAndClear_eq]
@[simp] theorem State.drainAndClear_uart_rxne (s : State) : (s.drainAndClear).uart.rxne = false :=
  by rw [State.drainAndClear_eq]
@[simp] theorem State.drainAndClear_uart_txe (s : State) : (s.drainAndClear).uart.txe = s.uart.txe :=
  by rw [State.drainAndClear_eq]
@[simp] theorem State.drainAndClear_uart_rdr (s : State) : (s.drainAndClear).uart.rdr = s.uart.rdr :=
  by rw [State.drainAndClear_eq]
@[simp] theorem State.drainAndClear_uart_tdr (s : State) : (s.drainAndClear).uart.tdr = s.uart.tdr :=
  by rw [State.drainAndClear_eq]
@[simp] theorem State.drainAndClear_uart_brr (s : State) : (s.drainAndClear).uart.brr = s.uart.brr :=
  by rw [State.drainAndClear_eq]
@[simp] theorem State.drainAndClear_uart_ue (s : State) : (s.drainAndClear).uart.ue = s.uart.ue :=
  by rw [State.drainAndClear_eq]
@[simp] theorem State.drainAndClear_uart_te (s : State) : (s.drainAndClear).uart.te = s.uart.te :=
  by rw [State.drainAndClear_eq]
@[simp] theorem State.drainAndClear_uart_re (s : State) : (s.drainAndClear).uart.re = s.uart.re :=
  by rw [State.drainAndClear_eq]
@[simp] theorem State.drainAndClear_uart_idleie (s : State) : (s.drainAndClear).uart.idleie = s.uart.idleie :=
  by rw [State.drainAndClear_eq]
@[simp] theorem State.drainAndClear_uart_cr2 (s : State) : (s.drainAndClear).uart.cr2 = s.uart.cr2 :=
  by rw [State.drainAndClear_eq]
@[simp] theorem State.drainAndClear_uart_eie (s : State) : (s.drainAndClear).uart.eie = s.uart.eie :=
  by rw [State.drainAndClear_eq]
@[simp] theorem State.drainAndClear_uart_dmar (s : State) : (s.drainAndClear).uart.dmar = s.uart.dmar :=
  by rw [State.drainAndClear_eq]
@[simp] theorem State.drainAndClear_uart_dmat (s : State) : (s.drainAndClear).uart.dmat = s.uart.dmat :=
  by rw [State.drainAndClear_eq]
@[simp] theorem State.drainAndClear_irqAttached (s : State) : (s.drainAndClear).irqAttached = s.irqAttached :=
  by rw [State.drainAndClear_eq]
@[simp] theorem State.drainAndClear_rxdma (s : State) : (s.drainAndClear).rxdma = s.rxdma :=
  by rw [State.drainAndClear_eq]
@[simp] theorem State.drainAndClear_cbpend (s : State) : (s.drainAndClear).cbpend = s.cbpend :=
  by rw [State.drainAndClear_eq]
@[simp] theorem State.drainAndClear_txdma (s : State) : (s.drainAndClear).txdma = s.txdma :=
  by rw [State.drainAndClear_eq]
@[simp] theorem State.drainAndClear_now (s : State) : (s.drainAndClear).now = s.now := by rw [State.drainAndClear_eq]
@[simp] theorem State.drainAndClear_txout (s : State) : (s.drainAndClear).txout = s.txout :=
  by rw [State.drainAndClear_eq]
@[simp] theorem State.drainAndClear_hostOut (s : State) : (s.drainAndClear).hostOut = s.hostOut :=
  by rw [State.drainAndClear_eq]
@[simp] theorem State.drainAndClear_trace (s : State) : (s.drainAndClear).trace = s.trace :=
  by rw [State.drainAndClear_eq]
@[simp] theorem State.drainAndClear_free (s : State) : (s.drainAndClear).free = s.free :=
  by rw [State.drainAndClear_eq]
@[simp] theorem State.drainAndClear_cfg (s : State) : (s.drainAndClear).cfg = s.cfg := by rw [State.drainAndClear_eq]

@[simp] theorem State.stopRx_inited (s : State) : (s.stopRx).inited = s.inited := rfl
@[simp] theorem State.stopRx_seq (s : State) : (s.stopRx).seq = s.seq := rfl
@[simp] theorem State.stopRx_rxstatus (s : State) : (s.stopRx).rxstatus = s.rxstatus := rfl
@[simp] theorem State.stopRx_sig (s : State) : (s.stopRx).sig = s.sig := rfl
@[simp] theorem State.stopRx_crit (s : State) : (s.stopRx).crit = s.crit := rfl
@[simp] theorem State.stopRx_outcome (s : State) : (s.stopRx).outcome = s.outcome := rfl
@[simp] theorem State.stopRx_result (s : State) : (s.stopRx).result = s.result := rfl
@[simp] theorem State.stopRx_resultValid (s : State) : (s.stopRx).resultValid = s.resultValid := rfl
@[simp] theorem State.stopRx_initResult (s : State) : (s.stopRx).initResult = s.initResult := rfl
@[simp] theorem State.stopRx_perfActive (s : State) : (s.stopRx).perfActive = s.perfActive := rfl
@[simp] theorem State.stopRx_deadline (s : State) : (s.stopRx).deadline = s.deadline := rfl
@[simp] theorem State.stopRx_sleepUntil (s : State) : (s.stopRx).sleepUntil = s.sleepUntil := rfl
@[simp] theorem State.stopRx_txlen (s : State) : (s.stopRx).txlen = s.txlen := rfl
@[simp] theorem State.stopRx_rxlen (s : State) : (s.stopRx).rxlen = s.rxlen := rfl
@[simp] theorem State.stopRx_perfT0 (s : State) : (s.stopRx).perfT0 = s.perfT0 := rfl
@[simp] theorem State.stopRx_durLast (s : State) : (s.stopRx).durLast = s.durLast := rfl
@[simp] theorem State.stopRx_cnt (s : State) : (s.stopRx).cnt = s.cnt := rfl
@[simp] theorem State.stopRx_mem (s : State) : (s.stopRx).mem = s.mem := rfl
@[simp] theorem State.stopRx_uart (s : State) : (s.stopRx).uart = s.uart := rfl
@[simp] theorem State.stopRx_irqAttached (s : State) : (s.stopRx).irqAttached = s.irqAttached := rfl
@[simp] theorem State.stopRx_rxdma_en (s : State) : (s.stopRx).rxdma.en = false := rfl
@[simp] theorem State.stopRx_rxdma_circ (s : State) : (s.stopRx).rxdma.circ = s.rxdma.circ := rfl
@[simp] theorem State.stopRx_rxdma_len (s : State) : (s.stopRx).rxdma.len = s.rxdma.len := rfl
@[simp] theorem State.stopRx_rxdma_ndtr (s : State) : (s.stopRx).rxdma.ndtr = s.rxdma.ndtr := rfl
@[simp] theorem State.stopRx_rxdma_cb (s : State) : (s.stopRx).rxdma.cb = s.rxdma.cb := rfl
@[simp] theorem State.stopRx_cbpend (s : State) : (s.stopRx).cbpend = s.cbpend := rfl
@[simp] theorem State.stopRx_txdma (s : State) : (s.stopRx).txdma = s.txdma := rfl
@[simp] theorem State.stopRx_now (s : State) : (s.stopRx).now = s.now := rfl
@[simp] theorem State.stopRx_txout (s : State) : (s.stopRx).txout = s.txout := rfl
@[simp] theorem State.stopRx_hostOut (s : State) : (s.stopRx).hostOut = s.hostOut := rfl
@[simp] theorem State.stopRx_trace (s : State) : (s.stopRx).trace = s.trace := rfl
@[simp] theorem State.stopRx_free (s : State) : (s.stopRx).free = s.free := rfl
@[simp] theorem State.stopRx_cfg (s : State) : (s.stopRx).cfg = s.cfg := rfl

@[simp] theorem State.stopTx_inited (s : State) : (s.stopTx).inited = s.inited := rfl
@[simp] theorem State.stopTx_seq (s : State) : (s.stopTx).seq = s.seq := rfl
@[simp] theorem State.stopTx_rxstatus (s : State) : (s.stopTx).rxstatus = s.rxstatus := rfl
@[simp] theorem State.stopTx_sig (s : State) : (s.stopTx).sig = s.sig := rfl
@[simp] theorem State.stopTx_crit (s : State) : (s.stopTx).crit = s.crit := rfl
@[simp] theorem State.stopTx_outcome (s : State) : (s.stopTx).outcome = s.outcome := rfl
@[simp] theorem State.stopTx_result (s : State) : (s.stopTx).result = s.result := rfl
@[simp] theorem State.stopTx_resultValid (s : State) : (s.stopTx).resultValid = s.resultValid := rfl
@[simp] theorem State.stopTx_initResult (s : State) : (s.stopTx).initResult = s.initResult := rfl
@[simp] theorem State.stopTx_perfActive (s : State) : (s.stopTx).perfActive = s.perfActive := rfl
@[simp] theorem State.stopTx_deadline (s : State) : (s.stopTx).deadline = s.deadline := rfl
@[simp] theorem State.stopTx_sleepUntil (s : State) : (s.stopTx).sleepUntil = s.sleepUntil := rfl
@[simp] theorem State.stopTx_txlen (s : State) : (s.stopTx).txlen = s.txlen := rfl
@[simp] theorem State.stopTx_rxlen (s : State) : (s.stopTx).rxlen = s.rxlen := rfl
@[simp] theorem State.stopTx_perfT0 (s : State) : (s.stopTx).perfT0 = s.perfT0 := rfl
@[simp] theorem State.stopTx_durLast (s : State) : (s.stopTx).durLast = s.durLast := rfl
@[simp] theorem State.stopTx_cnt (s : State) : (s.stopTx).cnt = s.cnt := rfl
@[simp] theorem State.stopTx_mem (s : State) : (s.stopTx).mem = s.mem := rfl
@[simp] theorem State.stopTx_uart (s : State) : (s.stopTx).uart = s.uart := rfl
@[simp] theorem State.stopTx_irqAttached (s : State) : (s.stopTx).irqAttached = s.irqAttached := rfl
@[simp] theorem State.stopTx_rxdma (s : State) : (s.stopTx).rxdma = s.rxdma := rfl
@[simp] theorem State.stopTx_cbpend (s : State) : (s.stopTx).cbpend = s.cbpend := rfl
@[simp] theorem State.stopTx_txdma_en (s : State) : (s.stopTx).txdma.en = false := rfl
@[simp] theorem State.stopTx_txdma_len (s : State) : (s.stopTx).txdma.len = s.txdma.len := rfl
@[simp] theorem State.stopTx_txdma_ndtr (s : State) : (s.stopTx).txdma.ndtr = s.txdma.ndtr := rfl
@[simp] theorem State.stopTx_now (s : State) : (s.stopTx).now = s.now := rfl
@[simp] theorem State.stopTx_txout (s : State) : (s.stopTx).txout = s.txout := rfl
@[simp] theorem State.stopTx_hostOut (s : State) : (s.stopTx).hostOut = s.hostOut := rfl
@[simp] theorem State.stopTx_trace (s : State) : (s.stopTx).trace = s.trace := rfl
@[simp] theorem State.stopTx_free (s : State) : (s.stopTx).free = s.free := rfl
@[simp] theorem State.stopTx_cfg (s : State) : (s.stopTx).cfg = s.cfg := rfl

@[simp] theorem State.requestsOff_inited (s : State) : (s.requestsOff).inited = s.inited := rfl
@[simp] theorem State.requestsOff_seq (s : State) : (s.requestsOff).seq = s.seq := rfl
@[simp] theorem State.requestsOff_rxstatus (s : State) : (s.requestsOff).rxstatus = s.rxstatus := rfl
@[simp] theorem State.requestsOff_sig (s : State) : (s.requestsOff).sig = s.sig := rfl
@[simp] theorem State.requestsOff_crit (s : State) : (s.requestsOff).crit = s.crit := rfl
@[simp] theorem State.requestsOff_outcome (s : State) : (s.requestsOff).outcome = s.outcome := rfl
@[simp] theorem State.requestsOff_result (s : State) : (s.requestsOff).result = s.result := rfl
@[simp] theorem State.requestsOff_resultValid (s : State) : (s.requestsOff).resultValid = s.resultValid := rfl
@[simp] theorem State.requestsOff_initResult (s : State) : (s.requestsOff).initResult = s.initResult := rfl
@[simp] theorem State.requestsOff_perfActive (s : State) : (s.requestsOff).perfActive = s.perfActive := rfl
@[simp] theorem State.requestsOff_deadline (s : State) : (s.requestsOff).deadline = s.deadline := rfl
@[simp] theorem State.requestsOff_sleepUntil (s : State) : (s.requestsOff).sleepUntil = s.sleepUntil := rfl
@[simp] theorem State.requestsOff_txlen (s : State) : (s.requestsOff).txlen = s.txlen := rfl
@[simp] theorem State.requestsOff_rxlen (s : State) : (s.requestsOff).rxlen = s.rxlen := rfl
@[simp] theorem State.requestsOff_perfT0 (s : State) : (s.requestsOff).perfT0 = s.perfT0 := rfl
@[simp] theorem State.requestsOff_durLast (s : State) : (s.requestsOff).durLast = s.durLast := rfl
@[simp] theorem State.requestsOff_cnt (s : State) : (s.requestsOff).cnt = s.cnt := rfl
@[simp] theorem State.requestsOff_mem (s : State) : (s.requestsOff).mem = s.mem := rfl
@[simp] theorem State.requestsOff_uart_ore (s : State) : (s.requestsOff).uart.ore = s.uart.ore := rfl
@[simp] theorem State.requestsOff_uart_ne (s : State) : (s.requestsOff).uart.ne = s.uart.ne := rfl
@[simp] theorem State.requestsOff_uart_fe (s : State) : (s.requestsOff).uart.fe = s.uart.fe := rfl
@[simp] theorem State.requestsOff_uart_idle (s : State) : (s.requestsOff).uart.idle = s.uart.idle := rfl
@[simp] theorem State.requestsOff_uart_rxne (s : State) : (s.requestsOff).uart.rxne = s.uart.rxne := rfl
@[simp] theorem State.requestsOff_uart_txe (s : State) : (s.requestsOff).uart.txe = s.uart.txe := rfl
@[simp] theorem State.requestsOff_uart_rdr (s : State) : (s.requestsOff).uart.rdr = s.uart.rdr := rfl
@[simp] theorem State.requestsOff_uart_tdr (s : State) : (s.requestsOff).uart.tdr = s.uart.tdr := rfl
@[simp] theorem State.requestsOff_uart_brr (s : State) : (s.requestsOff).uart.brr = s.uart.brr := rfl
@[simp] theorem State.requestsOff_uart_ue (s : State) : (s.requestsOff).uart.ue = s.uart.ue := rfl
@[simp] theorem State.requestsOff_uart_te (s : State) : (s.requestsOff).uart.te = s.uart.te := rfl
@[simp] theorem State.requestsOff_uart_re (s : State) : (s.requestsOff).uart.re = s.uart.re := rfl
@[simp] theorem State.requestsOff_uart_idleie (s : State) : (s.requestsOff).uart.idleie = s.uart.idleie := rfl
@[simp] theorem State.requestsOff_uart_cr2 (s : State) : (s.requestsOff).uart.cr2 = s.uart.cr2 := rfl
@[simp] theorem State.requestsOff_uart_eie (s : State) : (s.requestsOff).uart.eie = s.uart.eie := rfl
@[simp] theorem State.requestsOff_uart_dmar (s : State) : (s.requestsOff).uart.dmar = false := rfl
@[simp] theorem State.requestsOff_uart_dmat (s : State) : (s.requestsOff).uart.dmat = false := rfl
@[simp] theorem State.requestsOff_irqAttached (s : State) : (s.requestsOff).irqAttached = s.irqAttached := rfl
@[simp] theorem State.requestsOff_rxdma (s : State) : (s.requestsOff).rxdma = s.rxdma := rfl
@[simp] theorem State.requestsOff_cbpend (s : State) : (s.requestsOff).cbpend = s.cbpend := rfl
@[simp] theorem State.requestsOff_txdma (s : State) : (s.requestsOff).txdma = s.txdma := rfl
@[simp] theorem State.requestsOff_now (s : State) : (s.requestsOff).now = s.now := rfl
@[simp] theorem State.requestsOff_txout (s : State) : (s.requestsOff).txout = s.txout := rfl
@[simp] theorem State.requestsOff_hostOut (s : State) : (s.requestsOff).hostOut = s.hostOut := rfl
@[simp] theorem State.requestsOff_trace (s : State) : (s.requestsOff).trace = s.trace := rfl
@[simp] theorem State.requestsOff_free (s : State) : (s.requestsOff).free = s.free := rfl
@[simp] theorem State.requestsOff_cfg (s : State) : (s.requestsOff).cfg = s.cfg := rfl

@[simp] theorem State.post_inited (s : State) : (s.post).inited = s.inited := rfl
@[simp] theorem State.post_seq (s : State) : (s.post).seq = s.seq := rfl
@[simp] theorem State.post_rxstatus (s : State) : (s.post).rxstatus = s.rxstatus := rfl
@[simp] theorem State.post_sig (s : State) : (s.post).sig = s.sig + 1 := rfl
@[simp] theorem State.post_crit (s : State) : (s.post).crit = s.crit := rfl
@[simp] theorem State.post_outcome (s : State) : (s.post).outcome = s.outcome := rfl
@[simp] theorem State.post_result (s : State) : (s.post).result = s.result := rfl
@[simp] theorem State.post_resultValid (s : State) : (s.post).resultValid = s.resultValid := rfl
@[simp] theorem State.post_initResult (s : State) : (s.post).initResult = s.initResult := rfl
@[simp] theorem State.post_perfActive (s : State) : (s.post).perfActive = s.perfActive := rfl
@[simp] theorem State.post_deadline (s : State) : (s.post).deadline = s.deadline := rfl
@[simp] theorem State.post_sleepUntil (s : State) : (s.post).sleepUntil = s.sleepUntil := rfl
@[simp] theorem State.post_txlen (s : State) : (s.post).txlen = s.txlen := rfl
@[simp] theorem State.post_rxlen (s : State) : (s.post).rxlen = s.rxlen := rfl
@[simp] theorem State.post_perfT0 (s : State) : (s.post).perfT0 = s.perfT0 := rfl
@[simp] theorem State.post_durLast (s : State) : (s.post).durLast = s.durLast := rfl
@[simp] theorem State.post_cnt (s : State) : (s.post).cnt = s.cnt := rfl
@[simp] theorem State.post_mem (s : State) : (s.post).mem = s.mem := rfl
@[simp] theorem State.post_uart (s : State) : (s.post).uart = s.uart := rfl
@[simp] theorem State.post_irqAttached (s : State) : (s.post).irqAttached = s.irqAttached := rfl
@[simp] theorem State.post_rxdma (s : State) : (s.post).rxdma = s.rxdma := rfl
@[simp] theorem State.post_cbpend (s : State) : (s.post).cbpend = s.cbpend := rfl
@[simp] theorem State.post_txdma (s : State) : (s.post).txdma = s.txdma := rfl
@[simp] theorem State.post_now (s : State) : (s.post).now = s.now := rfl
@[simp] theorem State.post_txout (s : State) : (s.post).txout = s.txout := rfl
@[simp] theorem State.post_hostOut (s : State) : (s.post).hostOut = s.hostOut := rfl
@[simp] theorem State.post_trace (s : State) : (s.post).trace = s.trace := rfl
@[simp] theorem State.post_free (s : State) : (s.post).free = s.free := rfl
@[simp] theorem State.post_cfg (s : State) : (s.post).cfg = s.cfg := rfl

@[simp] theorem State.count_inited (s : State) (c : Counter) : (s.count c).inited = s.inited := rfl
@[simp] theorem State.count_seq (s : State) (c : Counter) : (s.count c).seq = s.seq := rfl
@[simp] theorem State.count_rxstatus (s : State) (c : Counter) : (s.count c).rxstatus = s.rxstatus := rfl
@[simp] theorem State.count_sig (s : State) (c : Counter) : (s.count c).sig = s.sig := rfl
@[simp] theorem State.count_crit (s : State) (c : Counter) : (s.count c).crit = s.crit := rfl
@[simp] theorem State.count_outcome (s : State) (c : Counter) : (s.count c).outcome = s.outcome := rfl
@[simp] theorem State.count_result (s : State) (c : Counter) : (s.count c).result = s.result := rfl
@[simp] theorem State.count_resultValid (s : State) (c : Counter) : (s.count c).resultValid = s.resultValid := rfl
@[simp] theorem State.count_initResult (s : State) (c : Counter) : (s.count c).initResult = s.initResult := rfl
@[simp] theorem State.count_perfActive (s : State) (c : Counter) : (s.count c).perfActive = s.perfActive := rfl
@[simp] theorem State.count_deadline (s : State) (c : Counter) : (s.count c).deadline = s.deadline := rfl
@[simp] theorem State.count_sleepUntil (s : State) (c : Counter) : (s.count c).sleepUntil = s.sleepUntil := rfl
@[simp] theorem State.count_txlen (s : State) (c : Counter) : (s.count c).txlen = s.txlen := rfl
@[simp] theorem State.count_rxlen (s : State) (c : Counter) : (s.count c).rxlen = s.rxlen := rfl
@[simp] theorem State.count_perfT0 (s : State) (c : Counter) : (s.count c).perfT0 = s.perfT0 := rfl
@[simp] theorem State.count_durLast (s : State) (c : Counter) : (s.count c).durLast = s.durLast := rfl
@[simp] theorem State.count_cnt (s : State) (c : Counter) : (s.count c).cnt = s.cnt.count s.cfg.cntW c := rfl
@[simp] theorem State.count_mem (s : State) (c : Counter) : (s.count c).mem = s.mem := rfl
@[simp] theorem State.count_uart (s : State) (c : Counter) : (s.count c).uart = s.uart := rfl
@[simp] theorem State.count_irqAttached (s : State) (c : Counter) : (s.count c).irqAttached = s.irqAttached := rfl
@[simp] theorem State.count_rxdma (s : State) (c : Counter) : (s.count c).rxdma = s.rxdma := rfl
@[simp] theorem State.count_cbpend (s : State) (c : Counter) : (s.count c).cbpend = s.cbpend := rfl
@[simp] theorem State.count_txdma (s : State) (c : Counter) : (s.count c).txdma = s.txdma := rfl
@[simp] theorem State.count_now (s : State) (c : Counter) : (s.count c).now = s.now := rfl
@[simp] theorem State.count_txout (s : State) (c : Counter) : (s.count c).txout = s.txout := rfl
@[simp] theorem State.count_hostOut (s : State) (c : Counter) : (s.count c).hostOut = s.hostOut := rfl
@[simp] theorem State.count_trace (s : State) (c : Counter) : (s.count c).trace = s.trace := rfl
@[simp] theorem State.count_free (s : State) (c : Counter) : (s.count c).free = s.free := rfl
@[simp] theorem State.count_cfg (s : State) (c : Counter) : (s.count c).cfg = s.cfg := rfl

@[simp] theorem State.abort_inited (s : State) : (s.abort).inited = s.inited := by simp [State.abort]
@[simp] theorem State.abort_seq (s : State) : (s.abort).seq = s.seq := by simp [State.abort]
@[simp] theorem State.abort_rxstatus (s : State) : (s.abort).rxstatus = s.rxstatus := by simp [State.abort]
@[simp] theorem State.abort_sig (s : State) : (s.abort).sig = s.sig := by simp [State.abort]
@[simp] theorem State.abort_crit (s : State) : (s.abort).crit = s.crit := by simp [State.abort]
@[simp] theorem State.abort_outcome (s : State) : (s.abort).outcome = s.outcome := by simp [State.abort]
@[simp] theorem State.abort_result (s : State) : (s.abort).result = s.result := by simp [State.abort]
@[simp] theorem State.abort_resultValid (s : State) : (s.abort).resultValid = s.resultValid := by simp [State.abort]
@[simp] theorem State.abort_initResult (s : State) : (s.abort).initResult = s.initResult := by simp [State.abort]
@[simp] theorem State.abort_perfActive (s : State) : (s.abort).perfActive = s.perfActive := by simp [State.abort]
@[simp] theorem State.abort_deadline (s : State) : (s.abort).deadline = s.deadline := by simp [State.abort]
@[simp] theorem State.abort_sleepUntil (s : State) : (s.abort).sleepUntil = s.sleepUntil := by simp [State.abort]
@[simp] theorem State.abort_txlen (s : State) : (s.abort).txlen = s.txlen := by simp [State.abort]
@[simp] theorem State.abort_rxlen (s : State) : (s.abort).rxlen = s.rxlen := by simp [State.abort]
@[simp] theorem State.abort_perfT0 (s : State) : (s.abort).perfT0 = s.perfT0 := by simp [State.abort]
@[simp] theorem State.abort_durLast (s : State) : (s.abort).durLast = s.durLast := by simp [State.abort]
@[simp] theorem State.abort_cnt (s : State) : (s.abort).cnt = s.cnt := by simp [State.abort]
@[simp] theorem State.abort_mem (s : State) : (s.abort).mem = s.mem := by simp [State.abort]
@[simp] theorem State.abort_uart_ore (s : State) : (s.abort).uart.ore = false := by simp [State.abort]
@[simp] theorem State.abort_uart_ne (s : State) : (s.abort).uart.ne = false := by simp [State.abort]
@[simp] theorem State.abort_uart_fe (s : State) : (s.abort).uart.fe = false := by simp [State.abort]
@[simp] theorem State.abort_uart_idle (s : State) : (s.abort).uart.idle = false := by simp [State.abort]
@[simp] theorem State.abort_uart_rxne (s : State) : (s.abort).uart.rxne = false := by simp [State.abort]
@[simp] theorem State.abort_uart_txe (s : State) : (s.abort).uart.txe = s.uart.txe := by simp [State.abort]
@[simp] theorem State.abort_uart_rdr (s : State) : (s.abort).uart.rdr = s.uart.rdr := by simp [State.abort]
@[simp] theorem State.abort_uart_tdr (s : State) : (s.abort).uart.tdr = s.uart.tdr := by simp [State.abort]
@[simp] theorem State.abort_uart_brr (s : State) : (s.abort).uart.brr = s.uart.brr := by simp [State.abort]
@[simp] theorem State.abort_uart_ue (s : State) : (s.abort).uart.ue = s.uart.ue := by simp [State.abort]
@[simp] theorem State.abort_uart_te (s : State) : (s.abort).uart.te = s.uart.te := by simp [State.abort]
@[simp] theorem State.abort_uart_re (s : State) : (s.abort).uart.re = s.uart.re := by simp [State.abort]
@[simp] theorem State.abort_uart_idleie (s : State) : (s.abort).uart.idleie = s.uart.idleie := by simp [State.abort]
@[simp] theorem State.abort_uart_cr2 (s : State) : (s.abort).uart.cr2 = s.uart.cr2 := by simp [State.abort]
@[simp] theorem State.abort_uart_eie (s : State) : (s.abort).uart.eie = s.uart.eie := by simp [State.abort]
@[simp] theorem State.abort_uart_dmar (s : State) : (s.abort).uart.dmar = false := by simp [State.abort]
@[simp] theorem State.abort_uart_dmat (s : State) : (s.abort).uart.dmat = false := by simp [State.abort]
@[simp] theorem State.abort_irqAttached (s : State) : (s.abort).irqAttached = s.irqAttached := by simp [State.abort]
@[simp] theorem State.abort_rxdma_en (s : State) : (s.abort).rxdma.en = false := by simp [State.abort]
@[simp] theorem State.abort_rxdma_circ (s : State) : (s.abort).rxdma.circ = s.rxdma.circ := by simp [State.abort]
@[simp] theorem State.abort_rxdma_len (s : State) : (s.abort).rxdma.len = s.rxdma.len := by simp [State.abort]
@[simp] theorem State.abort_rxdma_ndtr (s : State) : (s.abort).rxdma.ndtr = s.rxdma.ndtr := by simp [State.abort]
@[simp] theorem State.abort_rxdma_cb (s : State) : (s.abort).rxdma.cb = s.rxdma.cb := by simp [State.abort]
@[simp] theorem State.abort_cbpend (s : State) : (s.abort).cbpend = s.cbpend := by simp [State.abort]
@[simp] theorem State.abort_txdma_en (s : State) : (s.abort).txdma.en = false := by simp [State.abort]
@[simp] theorem State.abort_txdma_len (s : State) : (s.abort).txdma.len = s.txdma.len := by simp [State.abort]
@[simp] theorem State.abort_txdma_ndtr (s : State) : (s.abort).txdma.ndtr = s.txdma.ndtr := by simp [State.abort]
@[simp] theorem State.abort_now (s : State) : (s.abort).now = s.now := by simp [State.abort]
@[simp] theorem State.abort_txout (s : State) : (s.abort).txout = s.txout := by simp [State.abort]
@[simp] theorem State.abort_hostOut (s : State) : (s.abort).hostOut = s.hostOut := by simp [State.abort]
@[simp] theorem State.abort_trace (s : State) : (s.abort).trace = s.trace := by simp [State.abort]
@[simp] theorem State.abort_free (s : State) : (s.abort).free = s.free := by simp [State.abort]
@[simp] theorem State.abort_cfg (s : State) : (s.abort).cfg = s.cfg := by simp [State.abort]

/-! ### The transfers' effect on their channels -/

/-- A count that steps to zero was one. -/
theorem half_sub_one (n : Half) : n - 1 = 0 ↔ n = 1 := by
  constructor <;> intro h <;> bv_omega

@[simp] theorem State.rxAdvance_inited (s : State) : s.rxAdvance.inited = s.inited := by
  unfold State.rxAdvance; dsimp only; split <;> first | rfl | (split <;> rfl)
@[simp] theorem State.rxAdvance_seq (s : State) : s.rxAdvance.seq = s.seq := by
  unfold State.rxAdvance; dsimp only; split <;> first | rfl | (split <;> rfl)
@[simp] theorem State.rxAdvance_rxstatus (s : State) : s.rxAdvance.rxstatus = s.rxstatus := by
  unfold State.rxAdvance; dsimp only; split <;> first | rfl | (split <;> rfl)
@[simp] theorem State.rxAdvance_sig (s : State) : s.rxAdvance.sig = s.sig := by
  unfold State.rxAdvance; dsimp only; split <;> first | rfl | (split <;> rfl)
@[simp] theorem State.rxAdvance_crit (s : State) : s.rxAdvance.crit = s.crit := by
  unfold State.rxAdvance; dsimp only; split <;> first | rfl | (split <;> rfl)
@[simp] theorem State.rxAdvance_outcome (s : State) : s.rxAdvance.outcome = s.outcome := by
  unfold State.rxAdvance; dsimp only; split <;> first | rfl | (split <;> rfl)
@[simp] theorem State.rxAdvance_result (s : State) : s.rxAdvance.result = s.result := by
  unfold State.rxAdvance; dsimp only; split <;> first | rfl | (split <;> rfl)
@[simp] theorem State.rxAdvance_resultValid (s : State) : s.rxAdvance.resultValid = s.resultValid := by
  unfold State.rxAdvance; dsimp only; split <;> first | rfl | (split <;> rfl)
@[simp] theorem State.rxAdvance_initResult (s : State) : s.rxAdvance.initResult = s.initResult := by
  unfold State.rxAdvance; dsimp only; split <;> first | rfl | (split <;> rfl)
@[simp] theorem State.rxAdvance_perfActive (s : State) : s.rxAdvance.perfActive = s.perfActive := by
  unfold State.rxAdvance; dsimp only; split <;> first | rfl | (split <;> rfl)
@[simp] theorem State.rxAdvance_deadline (s : State) : s.rxAdvance.deadline = s.deadline := by
  unfold State.rxAdvance; dsimp only; split <;> first | rfl | (split <;> rfl)
@[simp] theorem State.rxAdvance_sleepUntil (s : State) : s.rxAdvance.sleepUntil = s.sleepUntil := by
  unfold State.rxAdvance; dsimp only; split <;> first | rfl | (split <;> rfl)
@[simp] theorem State.rxAdvance_txlen (s : State) : s.rxAdvance.txlen = s.txlen := by
  unfold State.rxAdvance; dsimp only; split <;> first | rfl | (split <;> rfl)
@[simp] theorem State.rxAdvance_rxlen (s : State) : s.rxAdvance.rxlen = s.rxlen := by
  unfold State.rxAdvance; dsimp only; split <;> first | rfl | (split <;> rfl)
@[simp] theorem State.rxAdvance_perfT0 (s : State) : s.rxAdvance.perfT0 = s.perfT0 := by
  unfold State.rxAdvance; dsimp only; split <;> first | rfl | (split <;> rfl)
@[simp] theorem State.rxAdvance_durLast (s : State) : s.rxAdvance.durLast = s.durLast := by
  unfold State.rxAdvance; dsimp only; split <;> first | rfl | (split <;> rfl)
@[simp] theorem State.rxAdvance_cnt (s : State) : s.rxAdvance.cnt = s.cnt := by
  unfold State.rxAdvance; dsimp only; split <;> first | rfl | (split <;> rfl)
@[simp] theorem State.rxAdvance_mem (s : State) : s.rxAdvance.mem = s.mem := by
  unfold State.rxAdvance; dsimp only; split <;> first | rfl | (split <;> rfl)
@[simp] theorem State.rxAdvance_uart (s : State) : s.rxAdvance.uart = s.uart := by
  unfold State.rxAdvance; dsimp only; split <;> first | rfl | (split <;> rfl)
@[simp] theorem State.rxAdvance_irqAttached (s : State) : s.rxAdvance.irqAttached = s.irqAttached := by
  unfold State.rxAdvance; dsimp only; split <;> first | rfl | (split <;> rfl)
@[simp] theorem State.rxAdvance_txdma (s : State) : s.rxAdvance.txdma = s.txdma := by
  unfold State.rxAdvance; dsimp only; split <;> first | rfl | (split <;> rfl)
@[simp] theorem State.rxAdvance_now (s : State) : s.rxAdvance.now = s.now := by
  unfold State.rxAdvance; dsimp only; split <;> first | rfl | (split <;> rfl)
@[simp] theorem State.rxAdvance_txout (s : State) : s.rxAdvance.txout = s.txout := by
  unfold State.rxAdvance; dsimp only; split <;> first | rfl | (split <;> rfl)
@[simp] theorem State.rxAdvance_hostOut (s : State) : s.rxAdvance.hostOut = s.hostOut := by
  unfold State.rxAdvance; dsimp only; split <;> first | rfl | (split <;> rfl)
@[simp] theorem State.rxAdvance_trace (s : State) : s.rxAdvance.trace = s.trace := by
  unfold State.rxAdvance; dsimp only; split <;> first | rfl | (split <;> rfl)
@[simp] theorem State.rxAdvance_free (s : State) : s.rxAdvance.free = s.free := by
  unfold State.rxAdvance; dsimp only; split <;> first | rfl | (split <;> rfl)
@[simp] theorem State.rxAdvance_cfg (s : State) : s.rxAdvance.cfg = s.cfg := by
  unfold State.rxAdvance; dsimp only; split <;> first | rfl | (split <;> rfl)
@[simp] theorem State.rxAdvance_rxdma_circ (s : State) : s.rxAdvance.rxdma.circ = s.rxdma.circ := by
  unfold State.rxAdvance; dsimp only; split <;> first | rfl | (split <;> rfl)
@[simp] theorem State.rxAdvance_rxdma_len (s : State) : s.rxAdvance.rxdma.len = s.rxdma.len := by
  unfold State.rxAdvance; dsimp only; split <;> first | rfl | (split <;> rfl)
@[simp] theorem State.rxAdvance_rxdma_cb (s : State) : s.rxAdvance.rxdma.cb = s.rxdma.cb := by
  unfold State.rxAdvance; dsimp only; split <;> first | rfl | (split <;> rfl)

/-- The count steps down, and a circular channel reloads (R272). -/
@[simp] theorem State.rxAdvance_rxdma_ndtr (s : State) : s.rxAdvance.rxdma.ndtr =
    if s.rxdma.ndtr = 1 then (if s.rxdma.circ then s.rxdma.len else 0) else s.rxdma.ndtr - 1 := by
  simp only [State.rxAdvance, half_sub_one]
  split <;> first | rfl | (split <;> rfl)

/-- A channel that is not circular stops at the programmed length (R272). -/
@[simp] theorem State.rxAdvance_rxdma_en (s : State) : s.rxAdvance.rxdma.en =
    if s.rxdma.ndtr = 1 ∧ s.rxdma.circ = false then false else s.rxdma.en := by
  simp only [State.rxAdvance, half_sub_one]
  split <;> (try split) <;> simp_all

/-- The completion event is raised at the programmed length, once, with the callback on (R272). -/
@[simp] theorem State.rxAdvance_cbpend (s : State) : s.rxAdvance.cbpend =
    if s.rxdma.ndtr = 1 ∧ s.rxdma.cb = true ∧ s.cbpend = Option.none then some false else s.cbpend := by
  simp only [State.rxAdvance, half_sub_one]
  split <;> (try split) <;> simp_all

@[simp] theorem State.txAdvance_inited (s : State) : (s.txAdvance).inited = s.inited := rfl
@[simp] theorem State.txAdvance_seq (s : State) : (s.txAdvance).seq = s.seq := rfl
@[simp] theorem State.txAdvance_rxstatus (s : State) : (s.txAdvance).rxstatus = s.rxstatus := rfl
@[simp] theorem State.txAdvance_sig (s : State) : (s.txAdvance).sig = s.sig := rfl
@[simp] theorem State.txAdvance_crit (s : State) : (s.txAdvance).crit = s.crit := rfl
@[simp] theorem State.txAdvance_outcome (s : State) : (s.txAdvance).outcome = s.outcome := rfl
@[simp] theorem State.txAdvance_result (s : State) : (s.txAdvance).result = s.result := rfl
@[simp] theorem State.txAdvance_resultValid (s : State) : (s.txAdvance).resultValid = s.resultValid := rfl
@[simp] theorem State.txAdvance_initResult (s : State) : (s.txAdvance).initResult = s.initResult := rfl
@[simp] theorem State.txAdvance_perfActive (s : State) : (s.txAdvance).perfActive = s.perfActive := rfl
@[simp] theorem State.txAdvance_deadline (s : State) : (s.txAdvance).deadline = s.deadline := rfl
@[simp] theorem State.txAdvance_sleepUntil (s : State) : (s.txAdvance).sleepUntil = s.sleepUntil := rfl
@[simp] theorem State.txAdvance_txlen (s : State) : (s.txAdvance).txlen = s.txlen := rfl
@[simp] theorem State.txAdvance_rxlen (s : State) : (s.txAdvance).rxlen = s.rxlen := rfl
@[simp] theorem State.txAdvance_perfT0 (s : State) : (s.txAdvance).perfT0 = s.perfT0 := rfl
@[simp] theorem State.txAdvance_durLast (s : State) : (s.txAdvance).durLast = s.durLast := rfl
@[simp] theorem State.txAdvance_cnt (s : State) : (s.txAdvance).cnt = s.cnt := rfl
@[simp] theorem State.txAdvance_mem (s : State) : (s.txAdvance).mem = s.mem := rfl
@[simp] theorem State.txAdvance_uart (s : State) : (s.txAdvance).uart = s.uart := rfl
@[simp] theorem State.txAdvance_irqAttached (s : State) : (s.txAdvance).irqAttached = s.irqAttached := rfl
@[simp] theorem State.txAdvance_rxdma (s : State) : (s.txAdvance).rxdma = s.rxdma := rfl
@[simp] theorem State.txAdvance_cbpend (s : State) : (s.txAdvance).cbpend = s.cbpend := rfl
@[simp] theorem State.txAdvance_txdma_en (s : State) : (s.txAdvance).txdma.en = if s.txdma.ndtr - 1 = 0 then false else s.txdma.en :=
  rfl
@[simp] theorem State.txAdvance_txdma_len (s : State) : (s.txAdvance).txdma.len = s.txdma.len := rfl
@[simp] theorem State.txAdvance_txdma_ndtr (s : State) : (s.txAdvance).txdma.ndtr = s.txdma.ndtr - 1 := rfl
@[simp] theorem State.txAdvance_now (s : State) : (s.txAdvance).now = s.now := rfl
@[simp] theorem State.txAdvance_txout (s : State) : (s.txAdvance).txout = s.txout := rfl
@[simp] theorem State.txAdvance_hostOut (s : State) : (s.txAdvance).hostOut = s.hostOut := rfl
@[simp] theorem State.txAdvance_trace (s : State) : (s.txAdvance).trace = s.trace := rfl
@[simp] theorem State.txAdvance_free (s : State) : (s.txAdvance).free = s.free := rfl
@[simp] theorem State.txAdvance_cfg (s : State) : (s.txAdvance).cfg = s.cfg := rfl

/-! ### Counters -/

/-- What one step of a counter does to each counter's value. -/
theorem Counters.get_count (c : Counters) (w : Nat) (a b : Counter) :
    (c.count w a).get b = if a = b then bump w (c.get b) else c.get b := by
  cases a <;> cases b <;> rfl

end Sys2Proof.Machine
end

