-- ==== Sys2Proof/Laws/Ops.lean ====
section
/-! SUPPORT. For each shared operation what it can do, said once: `Complete`, the size accessor, the checksum verdict
and the transfers' effect on their channels. -/

namespace Sys2Proof.Machine

/-! ### `Complete` -/

/-- A session that is not `Waiting` is left alone. -/
theorem State.complete_of_not_waiting (s : State) (st : Status) (h : s.rxstatus ≠ .waiting) : s.complete st = s := by
  simp [State.complete, h]

/-- The status `Complete` adopts. -/
def State.adopted (s : State) (st : Status) : RxStatus :=
  if s.uart.overrunAtCompletion || decide (st = .err) then .completedError else .completedOk

/-- What `Complete` does to a `Waiting` session, without its case distinctions but the one on the flags. -/
theorem State.complete_waiting (s : State) (st : Status) (h : s.rxstatus = .waiting) :
    s.complete st =
      State.post (State.stopTx (State.stopRx (State.requestsOff
        { (if s.uart.overrunAtCompletion then s.drainAndClear else s) with rxstatus := s.adopted st }))) := by
  cases hb : s.uart.overrunAtCompletion <;> cases st <;> simp [State.complete, State.adopted, h, hb]

theorem State.complete_rxstatus (s : State) (st : Status) (h : s.rxstatus = .waiting) :
    (s.complete st).rxstatus = s.adopted st := by simp [State.complete_waiting s st h]

theorem State.complete_sig (s : State) (st : Status) (h : s.rxstatus = .waiting) :
    (s.complete st).sig = s.sig + 1 := by
  rw [State.complete_waiting s st h]; cases s.uart.overrunAtCompletion <;> simp

theorem State.complete_stopped (s : State) (st : Status) (h : s.rxstatus = .waiting) :
    (s.complete st).uart.dmar = false ∧ (s.complete st).uart.dmat = false ∧ (s.complete st).rxdma.en = false ∧
    (s.complete st).txdma.en = false := by simp [State.complete_waiting s st h]

/-- A completed session is in one of the two completed states, and never `Waiting`. -/
theorem State.adopted_cases (s : State) (st : Status) :
    s.adopted st = .completedOk ∨ s.adopted st = .completedError := by
  unfold State.adopted; split <;> simp

/-! What `Complete` never changes. -/

@[simp] theorem State.complete_inited (s : State) (st : Status) : (s.complete st).inited = s.inited := by
  unfold State.complete; split <;> simp; split <;> simp
@[simp] theorem State.complete_seq (s : State) (st : Status) : (s.complete st).seq = s.seq := by
  unfold State.complete; split <;> simp; split <;> simp
@[simp] theorem State.complete_crit (s : State) (st : Status) : (s.complete st).crit = s.crit := by
  unfold State.complete; split <;> simp; split <;> simp
@[simp] theorem State.complete_outcome (s : State) (st : Status) : (s.complete st).outcome = s.outcome := by
  unfold State.complete; split <;> simp; split <;> simp
@[simp] theorem State.complete_result (s : State) (st : Status) : (s.complete st).result = s.result := by
  unfold State.complete; split <;> simp; split <;> simp
@[simp] theorem State.complete_resultValid (s : State) (st : Status) : (s.complete st).resultValid = s.resultValid := by
  unfold State.complete; split <;> simp; split <;> simp
@[simp] theorem State.complete_initResult (s : State) (st : Status) : (s.complete st).initResult = s.initResult := by
  unfold State.complete; split <;> simp; split <;> simp
@[simp] theorem State.complete_perfActive (s : State) (st : Status) : (s.complete st).perfActive = s.perfActive := by
  unfold State.complete; split <;> simp; split <;> simp
@[simp] theorem State.complete_deadline (s : State) (st : Status) : (s.complete st).deadline = s.deadline := by
  unfold State.complete; split <;> simp; split <;> simp
@[simp] theorem State.complete_sleepUntil (s : State) (st : Status) : (s.complete st).sleepUntil = s.sleepUntil := by
  unfold State.complete; split <;> simp; split <;> simp
@[simp] theorem State.complete_txlen (s : State) (st : Status) : (s.complete st).txlen = s.txlen := by
  unfold State.complete; split <;> simp; split <;> simp
@[simp] theorem State.complete_rxlen (s : State) (st : Status) : (s.complete st).rxlen = s.rxlen := by
  unfold State.complete; split <;> simp; split <;> simp
@[simp] theorem State.complete_perfT0 (s : State) (st : Status) : (s.complete st).perfT0 = s.perfT0 := by
  unfold State.complete; split <;> simp; split <;> simp
@[simp] theorem State.complete_durLast (s : State) (st : Status) : (s.complete st).durLast = s.durLast := by
  unfold State.complete; split <;> simp; split <;> simp
@[simp] theorem State.complete_cnt (s : State) (st : Status) : (s.complete st).cnt = s.cnt := by
  unfold State.complete; split <;> simp; split <;> simp
@[simp] theorem State.complete_mem (s : State) (st : Status) : (s.complete st).mem = s.mem := by
  unfold State.complete; split <;> simp; split <;> simp
@[simp] theorem State.complete_irqAttached (s : State) (st : Status) : (s.complete st).irqAttached = s.irqAttached := by
  unfold State.complete; split <;> simp; split <;> simp
@[simp] theorem State.complete_cbpend (s : State) (st : Status) : (s.complete st).cbpend = s.cbpend := by
  unfold State.complete; split <;> simp; split <;> simp
@[simp] theorem State.complete_now (s : State) (st : Status) : (s.complete st).now = s.now := by
  unfold State.complete; split <;> simp; split <;> simp
@[simp] theorem State.complete_txout (s : State) (st : Status) : (s.complete st).txout = s.txout := by
  unfold State.complete; split <;> simp; split <;> simp
@[simp] theorem State.complete_hostOut (s : State) (st : Status) : (s.complete st).hostOut = s.hostOut := by
  unfold State.complete; split <;> simp; split <;> simp
@[simp] theorem State.complete_trace (s : State) (st : Status) : (s.complete st).trace = s.trace := by
  unfold State.complete; split <;> simp; split <;> simp
@[simp] theorem State.complete_free (s : State) (st : Status) : (s.complete st).free = s.free := by
  unfold State.complete; split <;> simp; split <;> simp
@[simp] theorem State.complete_cfg (s : State) (st : Status) : (s.complete st).cfg = s.cfg := by
  unfold State.complete; split <;> simp; split <;> simp
@[simp] theorem State.complete_uart_txe (s : State) (st : Status) : (s.complete st).uart.txe = s.uart.txe := by
  unfold State.complete; split <;> simp; split <;> simp
@[simp] theorem State.complete_uart_rdr (s : State) (st : Status) : (s.complete st).uart.rdr = s.uart.rdr := by
  unfold State.complete; split <;> simp; split <;> simp
@[simp] theorem State.complete_uart_tdr (s : State) (st : Status) : (s.complete st).uart.tdr = s.uart.tdr := by
  unfold State.complete; split <;> simp; split <;> simp
@[simp] theorem State.complete_uart_brr (s : State) (st : Status) : (s.complete st).uart.brr = s.uart.brr := by
  unfold State.complete; split <;> simp; split <;> simp
@[simp] theorem State.complete_uart_ue (s : State) (st : Status) : (s.complete st).uart.ue = s.uart.ue := by
  unfold State.complete; split <;> simp; split <;> simp
@[simp] theorem State.complete_uart_te (s : State) (st : Status) : (s.complete st).uart.te = s.uart.te := by
  unfold State.complete; split <;> simp; split <;> simp
@[simp] theorem State.complete_uart_re (s : State) (st : Status) : (s.complete st).uart.re = s.uart.re := by
  unfold State.complete; split <;> simp; split <;> simp
@[simp] theorem State.complete_uart_idleie (s : State) (st : Status) : (s.complete st).uart.idleie = s.uart.idleie := by
  unfold State.complete; split <;> simp; split <;> simp
@[simp] theorem State.complete_uart_cr2 (s : State) (st : Status) : (s.complete st).uart.cr2 = s.uart.cr2 := by
  unfold State.complete; split <;> simp; split <;> simp
@[simp] theorem State.complete_uart_eie (s : State) (st : Status) : (s.complete st).uart.eie = s.uart.eie := by
  unfold State.complete; split <;> simp; split <;> simp
@[simp] theorem State.complete_rxdma_circ (s : State) (st : Status) : (s.complete st).rxdma.circ = s.rxdma.circ := by
  unfold State.complete; split <;> simp; split <;> simp
@[simp] theorem State.complete_rxdma_len (s : State) (st : Status) : (s.complete st).rxdma.len = s.rxdma.len := by
  unfold State.complete; split <;> simp; split <;> simp
@[simp] theorem State.complete_rxdma_ndtr (s : State) (st : Status) : (s.complete st).rxdma.ndtr = s.rxdma.ndtr := by
  unfold State.complete; split <;> simp; split <;> simp
@[simp] theorem State.complete_rxdma_cb (s : State) (st : Status) : (s.complete st).rxdma.cb = s.rxdma.cb := by
  unfold State.complete; split <;> simp; split <;> simp
@[simp] theorem State.complete_txdma_len (s : State) (st : Status) : (s.complete st).txdma.len = s.txdma.len := by
  unfold State.complete; split <;> simp; split <;> simp
@[simp] theorem State.complete_txdma_ndtr (s : State) (st : Status) : (s.complete st).txdma.ndtr = s.txdma.ndtr := by
  unfold State.complete; split <;> simp; split <;> simp

/-! ### The size accessor and the verdict -/

/-- The size accessor answers a length or one of the faults of a header read. -/
theorem State.frameLen_error (s : State) (f : Fault) (h : s.frameLen = .error f) :
    ∃ i, i < hdrLen ∧ (f = .unwrittenBuffer i ∧ Memory.read s.mem i = none ∨
      f = .bufferRange i ∧ s.cfg.cap.toNat ≤ i) := by
  simp only [State.frameLen] at h
  rcases s.bufRead_cases 0 with ⟨b0, _, _, h0⟩ | ⟨m0, _, h0⟩ | ⟨m0, h0⟩
  · rcases s.bufRead_cases 1 with ⟨b1, _, _, h1⟩ | ⟨m1, _, h1⟩ | ⟨m1, h1⟩
    · cases hs : s.cfg.frameLen with
      | reference => simp [h0, h1, hs] at h
      | other k =>
        rcases s.bufRead_cases 2 with ⟨b2, _, _, h2⟩ | ⟨m2, _, h2⟩ | ⟨m2, h2⟩
        · simp [h0, h1, h2, hs] at h
        · simp only [h0, h1, h2, hs, Except.error.injEq] at h
          exact ⟨2, by decide, .inl ⟨h.symm, m2⟩⟩
        · simp only [h0, h1, h2, hs, Except.error.injEq] at h
          exact ⟨2, by decide, .inr ⟨h.symm, m2⟩⟩
    · simp only [h0, h1, Except.error.injEq] at h
      exact ⟨1, by decide, .inl ⟨h.symm, m1⟩⟩
    · simp only [h0, h1, Except.error.injEq] at h
      exact ⟨1, by decide, .inr ⟨h.symm, m1⟩⟩
  · simp only [h0, Except.error.injEq] at h
    exact ⟨0, by decide, .inl ⟨h.symm, m0⟩⟩
  · simp only [h0, Except.error.injEq] at h
    exact ⟨0, by decide, .inr ⟨h.symm, m0⟩⟩

/-- The size accessor reads memory and parameters only. -/
theorem State.frameLen_congr (s t : State) (hm : t.mem = s.mem) (hc : t.cfg = s.cfg) : t.frameLen = s.frameLen := by
  simp only [State.frameLen, State.bufRead, hm, hc]

theorem State.memRead_congr (s t : State) (hm : t.mem = s.mem) (hc : t.cfg = s.cfg) (i n : Nat) :
    t.memRead i n = s.memRead i n := by
  induction n generalizing i with
  | zero => rfl
  | succ n ih => simp only [State.memRead, State.bufRead, hm, hc, ih]

theorem State.bufRead_congr (s t : State) (hm : t.mem = s.mem) (hc : t.cfg = s.cfg) (i : Nat) :
    t.bufRead i = s.bufRead i := by simp only [State.bufRead, hm, hc]

theorem State.verdict_congr (s t : State) (hc : t.cfg = s.cfg) (stored : Byte) (front : List Byte) (code : Byte) :
    t.verdict stored front code = s.verdict stored front code := by
  unfold State.verdict State.crc8 State.isCorrupt
  rw [hc]

/-- The validator reads memory and parameters only. -/
theorem State.crcCheck_congr (s t : State) (hm : t.mem = s.mem) (hc : t.cfg = s.cfg) : t.crcCheck = s.crcCheck := by
  unfold State.crcCheck
  simp only [State.frameLen_congr s t hm hc, State.memRead_congr s t hm hc, State.bufRead_congr s t hm hc,
    State.verdict_congr s t hc]
  rw [hc]

/-- What `CrcCheck` can answer: it fails with the size accessor; it is `bad` on a length that holds no frame; it faults
on an unwritten byte of the frame; or it judges the stored byte against the bytes before it. -/
theorem State.crcCheck_cases (s : State) :
    (∃ f, s.frameLen = .error f ∧ s.crcCheck = .error f) ∨
    (∃ len, s.frameLen = .ok len ∧
      ((len < minFrame ∨ s.cfg.cap.toNat < len) ∧ s.crcCheck = .ok .bad ∨
       minFrame ≤ len ∧ len ≤ s.cfg.cap.toNat ∧
        ((∃ j, j < len ∧ Memory.read s.mem j = none ∧ s.crcCheck = .error (.unwrittenBuffer j)) ∨
         (∃ stored front, Memory.read s.mem (len - 1) = some stored ∧ front.length = len - 1 ∧
           (∀ k, k < len - 1 → Memory.read s.mem k = front[k]?) ∧
           s.crcCheck = .ok (s.verdict stored front (front.getD 2 0)))))) := by
  cases hf : s.frameLen with
  | error f => exact .inl ⟨f, rfl, by simp [State.crcCheck, hf]⟩
  | ok len =>
    refine .inr ⟨len, rfl, ?_⟩
    by_cases hl : len < minFrame ∨ s.cfg.cap.toNat < len
    · exact .inl ⟨hl, by simp [State.crcCheck, hf, hl]⟩
    · have hm : minFrame = 4 := rfl
      refine .inr ⟨by omega, by omega, ?_⟩
      have hl' : ¬ (len < minFrame ∨ s.cfg.cap.toNat < len) := hl
      rcases s.bufRead_cases (len - 1) with ⟨b, hb, _, hr⟩ | ⟨hb, _, hr⟩ | ⟨hc, _⟩
      · rcases s.memRead_cases 0 (len - 1) (by omega) with ⟨bs, h1, h2, h3⟩ | ⟨j, _, h2, h3, h4⟩
        · refine .inr ⟨b, bs, hb, h2, by simpa using h3, ?_⟩
          simp only [State.crcCheck, hf, hr, h1]
          rw [if_neg (by simpa using hl)]
        · refine .inl ⟨j, by omega, h3, ?_⟩
          simp only [State.crcCheck, hf, hr, h4]
          rw [if_neg (by simpa using hl)]
      · refine .inl ⟨len - 1, by omega, hb, ?_⟩
        simp only [State.crcCheck, hf, hr]
        rw [if_neg (by simpa using hl)]
      · omega

/-! ### The transfers' effect on their channels -/

/-- What moving one received byte does to the channel: a count that does not reach zero steps down; one that does
raises the event and reloads or stops. -/
theorem State.rxAdvance_cases (s : State) :
    (s.rxdma.ndtr ≠ 1 ∧ s.rxAdvance = { s with rxdma := { s.rxdma with ndtr := s.rxdma.ndtr - 1 } }) ∨
    (s.rxdma.ndtr = 1 ∧ ∃ pend, pend = (if s.rxdma.cb && decide (s.cbpend = none) then some false else s.cbpend) ∧
      (s.rxdma.circ = true ∧ s.rxAdvance = { s with cbpend := pend, rxdma := { s.rxdma with ndtr := s.rxdma.len } } ∨
       s.rxdma.circ = false ∧
        s.rxAdvance = { s with cbpend := pend, rxdma := { s.rxdma with ndtr := 0, en := false } })) := by
  by_cases h : s.rxdma.ndtr = 1
  · refine .inr ⟨h, _, rfl, ?_⟩
    cases hc : s.rxdma.circ <;> simp [State.rxAdvance, h, hc]
  · refine .inl ⟨h, ?_⟩
    have : ¬ s.rxdma.ndtr - 1 = 0 := fun h' => h (by bv_omega)
    simp only [State.rxAdvance, if_neg this]

end Sys2Proof.Machine
end

