-- ==== Sys2Proof/Laws/Exec.lean ====
section
/-! SUPPORT. Inversion: for each meaning, exactly when it answers a next state and which one. A proof about all
operations cites these and unfolds no meaning. -/

namespace Sys2Proof.Machine

/-- A guarded step answers next exactly when its guard holds. -/
theorem guarded_next {p : Prop} [Decidable p] {a t : State} {r : Refusal} :
    (if p then (Host.Outcome.next a : Host.Outcome State Fault Refusal) else .refused r) = .next t ↔ p ∧ a = t := by
  by_cases h : p <;> simp [h]

/-- An access carried into an outcome answers next exactly when the access succeeds and its continuation does. -/
theorem orFault_next {α : Type} {r : Except Fault α} {k : α → Host.Outcome State Fault Refusal} {t : State} :
    orFault r k = .next t ↔ ∃ v, r = .ok v ∧ k v = .next t := by
  cases r <;> simp [orFault]

theorem orFault_fault {α : Type} {r : Except Fault α} {k : α → Host.Outcome State Fault Refusal} {f : Fault} :
    orFault r k = .fault f ↔ r = .error f ∨ ∃ v, r = .ok v ∧ k v = .fault f := by
  cases r <;> simp [orFault]

theorem orFault_refused {α : Type} {r : Except Fault α} {k : α → Host.Outcome State Fault Refusal} {x : Refusal} :
    orFault r k = .refused x ↔ ∃ v, r = .ok v ∧ k v = .refused x := by
  cases r <;> simp [orFault]

/-! ### Host commands -/

theorem execInit_next {s t : State} : execInit s = .next t ↔
    (s.inited = false ∧ s.seq = .idle) ∧
      ((s.cfg.rxchAvail && s.cfg.txchAvail) = true ∧ s.initDone = t ∨
       ¬ (s.cfg.rxchAvail && s.cfg.txchAvail) = true ∧ { s with initResult := .resourceExhausted } = t) := by
  unfold execInit
  split <;> rename_i h
  · split <;> rename_i h'
    · simp only [h, h', true_and, and_self, Host.Outcome.next.injEq, not_true_eq_false, false_and, or_false]
    · simp only [h, h', true_and, and_self, Host.Outcome.next.injEq, false_and, false_or, not_false_eq_true,
        Bool.false_eq_true]
  · simp only [h, reduceCtorEq, false_and]

theorem execExchange_next {s t : State} : execExchange s = .next t ↔
    (s.inited = true ∧ s.seq = .idle) ∧ { s with resultValid := false, outcome := .none, seq := .s1 } = t :=
  guarded_next

theorem execBufwr_next {a : Half} {d : Byte} {s t : State} : execBufwr a d s = .next t ↔
    (s.seq = .idle ∧ a.toNat < s.cfg.cap.toNat) ∧ { s with mem := Memory.write s.mem a.toNat d } = t := by
  by_cases h : s.seq = .idle ∧ a.toNat < s.cfg.cap.toNat
  · simp [execBufwr, h, State.bufWrite, orFault]
  · simp [execBufwr, h]

theorem execBufrd_next {a : Half} {s t : State} : execBufrd a s = .next t ↔
    (s.seq = .idle ∧ a.toNat < s.cfg.cap.toNat) ∧
      ∃ b, Memory.read s.mem a.toNat = some b ∧ { s with hostOut := s.hostOut ++ [b] } = t := by
  by_cases h : s.seq = .idle ∧ a.toNat < s.cfg.cap.toNat
  · cases hr : Memory.read s.mem a.toNat <;> simp [execBufrd, h, State.bufRead, orFault, hr]
  · simp [execBufrd, h]

/-- The state `INIT` leaves, said at once. -/
theorem State.initDone_eq (s : State) : s.initDone =
    { s with
      uart := { s.uart with
        rxne := false, ore := false, ne := false, fe := false, idle := false, brr := s.cfg.brrValue, ue := true,
        te := true, re := true, idleie := true, cr2 := 0, eie := true, dmar := false, dmat := false }
      irqAttached := true, sig := 0, inited := true, initResult := .ok } := by
  simp [State.initDone, State.drainAndClear_eq, Uart.writeCr1, Uart.writeCr3]

/-! ### Sequencer -/

theorem execXs1_next {s t : State} : execXs1 s = .next t ↔
    s.seq = .s1 ∧ { s with perfT0 := s.now, perfActive := true, seq := .s2 } = t := guarded_next

theorem execXs2_next {s t : State} : execXs2 s = .next t ↔
    s.seq = .s2 ∧ { s.drainAndClear with seq := .s3 } = t := guarded_next

theorem execXs3_next {s t : State} : execXs3 s = .next t ↔
    s.seq = .s3 ∧ { s with rxstatus := .waiting, seq := .s4 } = t := guarded_next

theorem execXs4_next {s t : State} : execXs4 s = .next t ↔
    s.seq = .s4 ∧ { s with
      rxdma := { s.rxdma with circ := true, len := s.cfg.cap, ndtr := s.cfg.cap }, cbpend := none, seq := .s5 } = t :=
  guarded_next

theorem execXs5_next {s t : State} : execXs5 s = .next t ↔
    s.seq = .s5 ∧ { s with
      uart := { s.uart with dmar := true }, rxdma := { s.rxdma with cb := true, en := true }, seq := .s6 } = t :=
  guarded_next

theorem execXs6_next {s t : State} : execXs6 s = .next t ↔ s.seq = .s6 ∧ { s with seq := .s7 } = t := guarded_next

theorem execXs7_next {s t : State} : execXs7 s = .next t ↔
    s.seq = .s7 ∧ ∃ len, s.frameLen = .ok len ∧ 1 ≤ len ∧ len ≤ s.cfg.cap.toNat ∧
      { s with
        txlen := BitVec.ofNat 16 len
        txdma := { s.txdma with len := BitVec.ofNat 16 len, ndtr := BitVec.ofNat 16 len }
        seq := .s8 } = t := by
  by_cases h : s.seq = .s7
  · rw [execXs7, if_pos h, orFault_next]
    refine ⟨fun ⟨len, h1, h2⟩ => ⟨h, len, h1, ?_⟩, fun ⟨_, len, h1, h2, h3, h4⟩ => ⟨len, h1, ?_⟩⟩
    · by_cases h' : len < 1 ∨ s.cfg.cap.toNat < len
      · simp only [if_pos h', reduceCtorEq] at h2
      · simp only [if_neg h', Host.Outcome.next.injEq] at h2
        exact ⟨by omega, by omega, h2⟩
    · rw [if_neg (by omega), ← h4]
  · simp [execXs7, h]

theorem execXs8_next {s t : State} : execXs8 s = .next t ↔
    s.seq = .s8 ∧
      { s with uart := { s.uart with dmat := true }, txdma := { s.txdma with en := true }, seq := .s9 } = t :=
  guarded_next

theorem execXs9_next {s t : State} : execXs9 s = .next t ↔
    s.seq = .s9 ∧ { s with deadline := s.now + timeoutTicks, seq := .s10 } = t := guarded_next

theorem execXs10e_next {s t : State} : execXs10e s = .next t ↔
    s.seq = .s10 ∧ { s with crit := true, seq := .wait } = t := guarded_next

theorem execXs10p_next {s t : State} : execXs10p s = .next t ↔
    (s.seq = .wait ∧ 0 < s.sig) ∧
      (s.rxstatus = .completedError ∧
        { s with sig := s.sig - 1, seq := .s11, cnt := s.cnt.count s.cfg.cntW .dmaerr, outcome := .protocolError } = t ∨
       s.rxstatus ≠ .completedError ∧ { s with sig := s.sig - 1, seq := .s11, outcome := .pending } = t) := by
  by_cases h : s.seq = .wait ∧ 0 < s.sig <;> by_cases h' : s.rxstatus = .completedError
  · simp [execXs10p, State.posted, h, h', State.count]
  · simp [execXs10p, State.posted, h, h']
  · simp only [execXs10p, State.posted]; simp [h]
  · simp only [execXs10p, State.posted]; simp [h]

theorem execXs10t_next {s t : State} : execXs10t s = .next t ↔
    (s.seq = .wait ∧ s.sig = 0 ∧ s.deadline ≤ s.now) ∧
      { s.abort with rxstatus := .inactive, sleepUntil := s.now + s.cfg.sleepTicks, seq := .sleep } = t := by
  simp only [execXs10t, guarded_next, State.expired, Bool.and_eq_true, decide_eq_true_eq, and_assoc]

theorem execXs10s_next {s t : State} : execXs10s s = .next t ↔
    (s.seq = .sleep ∧ s.sleepUntil ≤ s.now) ∧
      { s with cnt := s.cnt.count s.cfg.cntW .timeout, perfActive := false, outcome := .timeout, seq := .s11 } = t := by
  simp only [execXs10s, guarded_next, State.sleepOver, Bool.and_eq_true, decide_eq_true_eq, State.count]

theorem execXs11_next {s t : State} : execXs11 s = .next t ↔
    s.seq = .s11 ∧ { s with crit := false, rxstatus := .inactive, seq := .s12 } = t := guarded_next

theorem execXs12_next {s t : State} : execXs12 s = .next t ↔
    s.seq = .s12 ∧
      (s.outcome = .pending ∧ (s.crcCheck = .ok .good ∧ { s with outcome := .success, seq := .s13 } = t ∨
        s.crcCheck = .ok .bad ∧
          { s with cnt := s.cnt.count s.cfg.cntW .crc, outcome := .protocolError, seq := .s13 } = t) ∨
       s.outcome ≠ .pending ∧ { s with seq := .s13 } = t) := by
  by_cases h : s.seq = .s12 <;> by_cases h' : s.outcome = .pending
  · cases hc : s.crcCheck with
    | error f => simp [execXs12, h, h', hc, orFault]
    | ok v => cases v <;> simp [execXs12, h, h', hc, orFault, State.judged, State.count]
  · simp [execXs12, h, h']
  · simp [execXs12, h]
  · simp [execXs12, h]

/-- What `XS13` publishes when the latch is decided. -/
theorem State.publish_cases (s : State) :
    (s.outcome = .success ∧ s.publish = { s with result := .success }) ∨
    (s.outcome = .timeout ∧ s.publish = { s with result := .timeout }) ∨
    (s.outcome = .protocolError ∧ s.publish = { s with result := .protocolError }) ∨
    ((s.outcome = .none ∨ s.outcome = .pending) ∧ ∃ r, s.publish = { s with result := r, free := s.free + 1 }) := by
  cases h : s.outcome <;> simp [State.publish, h]

/-- What the duration sample writes. -/
theorem State.emitSample_cases (s : State) :
    (s.perfActive = true ∧ s.emitSample =
      { s with cnt := s.cnt.count s.cfg.cntW .txn, durLast := s.now - s.perfT0, perfActive := false }) ∨
    (s.perfActive = false ∧ s.emitSample = s) := by
  cases h : s.perfActive <;> simp [State.emitSample, h, State.count]

theorem execXs13_next {s t : State} : execXs13 s = .next t ↔
    s.seq = .s13 ∧ { s.emitSample.publish with resultValid := true, seq := .idle } = t := guarded_next

/-! ### Arbiter -/

theorem execDmaCb_next {derr : Bool} {s t : State} : execDmaCb derr s = .next t ↔
    s.cbpend = some derr ∧ State.complete { s with cbpend := none } (Status.ofDerr derr) = t := guarded_next

/-- The line error detector, by whether a session waits. -/
theorem State.lineError_cases (s : State) :
    (s.rxstatus = .waiting ∧ s.lineError = (s.count .uart).abort.complete .err) ∨
    (s.rxstatus ≠ .waiting ∧ s.lineError = s.count .uart) := by
  by_cases h : s.rxstatus = .waiting <;> simp [State.lineError, h]

theorem State.irqRequest_idle {s : State} (h : s.irqRequest = true) (he : s.uart.lineErr = false) :
    s.uart.idle = true := by
  simp [State.irqRequest, he] at h; exact h.2.1

/-- `UART_IRQ`, by the rows of the decision table R215. -/
theorem execUartIrq_next {s t : State} : execUartIrq s = .next t ↔
    s.irqRequest = true ∧
      (s.uart.lineErr = true ∧ s.drainAndClear.lineError = t ∨
       s.uart.lineErr = false ∧
        (s.rxstatus ≠ .waiting ∧ s.drainAndClear = t ∨
         s.rxstatus = .waiting ∧
          (s.measuredLen.toNat < 1 ∧ State.malformed { s.drainAndClear with rxlen := s.measuredLen } = t ∨
           1 ≤ s.measuredLen.toNat ∧ ∃ declared, s.frameLen = .ok declared ∧
            (s.measuredLen.toNat < declared ∧ State.malformed { s.drainAndClear with rxlen := s.measuredLen } = t ∨
             declared ≤ s.measuredLen.toNat ∧
              State.validShort { s.drainAndClear with rxlen := s.measuredLen } = t)))) := by
  by_cases hr : s.irqRequest = true
  · cases he : s.uart.lineErr with
    | true => simp [execUartIrq, hr, he]
    | false =>
      have hi := State.irqRequest_idle hr he
      have hm : s.drainAndClear.measuredLen = s.measuredLen := by simp [State.measuredLen]
      by_cases hw : s.rxstatus = .waiting
      · by_cases hl : s.measuredLen.toNat < 1
        · have hl' : s.measuredLen = 0#16 := by bv_omega
          simp [execUartIrq, hr, he, hi, State.frameBoundary, hw, hm, hl']
        · have hf : State.frameLen { s.drainAndClear with rxlen := s.measuredLen } = s.frameLen :=
            State.frameLen_congr _ _ (by simp) (by simp)
          simp only [execUartIrq, hr, he, hi, State.frameBoundary, State.drainAndClear_rxstatus, hw, hm,
            State.enterHandler_eq, State.invalidateCache_eq, if_true, if_false, Bool.false_eq_true,
            orFault_next, Host.Outcome.next.injEq, hl, false_and, true_and, false_or, ne_eq, not_true_eq_false]
          constructor
          · rintro ⟨d, h1, h2⟩
            refine ⟨by omega, d, h1, ?_⟩
            by_cases h3 : s.measuredLen.toNat < d
            · exact .inl ⟨h3, by rw [← h2, if_pos h3]⟩
            · exact .inr ⟨by omega, by rw [← h2, if_neg h3]⟩
          · rintro ⟨_, d, h1, h2⟩
            refine ⟨d, h1, ?_⟩
            rcases h2 with ⟨h3, h4⟩ | ⟨h3, h4⟩
            · rw [if_pos h3, h4]
            · rw [if_neg (by omega), h4]
      · simp [execUartIrq, hr, he, hi, State.frameBoundary, hw]
  · simp [execUartIrq, hr]

/-! ### Platform agents and clock -/

theorem execLineRx_next {b : Byte} {ne fe : Bool} {s t : State} : execLineRx b ne fe s = .next t ↔
    s.uart.receiverOn = true ∧ { s with uart := s.uart.receive b ne fe } = t := guarded_next

theorem execLineIdle_next {s t : State} : execLineIdle s = .next t ↔
    s.uart.receiverOn = true ∧ { s with uart := { s.uart with idle := true } } = t := guarded_next

theorem execLineTx_next {s t : State} : execLineTx s = .next t ↔
    (s.uart.txe = false ∧ s.uart.transmitterOn = true) ∧
      { s with txout := s.txout ++ [s.uart.tdr], uart := { s.uart with txe := true } } = t := guarded_next

theorem execDmaRxXfer_next {s t : State} : execDmaRxXfer s = .next t ↔
    s.rxRequest = true ∧ s.rxIndex < s.cfg.cap.toNat ∧
      State.rxAdvance { s with
        mem := Memory.write s.mem s.rxIndex s.uart.rdr, uart := { s.uart with rxne := false } } = t := by
  by_cases h : s.rxRequest = true
  · by_cases hi : s.rxIndex < s.cfg.cap.toNat <;> simp [execDmaRxXfer, h, State.bufWrite, hi, orFault, Uart.readDr]
  · simp [execDmaRxXfer, h]

theorem execDmaTxXfer_next {s t : State} : execDmaTxXfer s = .next t ↔
    s.txRequest = true ∧ ∃ b, s.txIndex < s.cfg.cap.toNat ∧ Memory.read s.mem s.txIndex = some b ∧
      State.txAdvance { s with uart := { s.uart with tdr := b, txe := false } } = t := by
  by_cases h : s.txRequest = true
  · by_cases hi : s.txIndex < s.cfg.cap.toNat
    · cases hr : Memory.read s.mem s.txIndex <;>
        simp [execDmaTxXfer, h, State.bufRead, hi, hr, orFault, Uart.writeDr]
    · simp [execDmaTxXfer, h, State.bufRead, hi, orFault]
  · simp [execDmaTxXfer, h]

theorem execDmaFault_next {s t : State} : execDmaFault s = .next t ↔
    s.rxdma.en = true ∧ { s.stopRx with cbpend := some true } = t := guarded_next

theorem execTick_next {d : Time} {s t : State} : execTick d s = .next t ↔ { s with now := s.now + d } = t := by
  simp [execTick]

theorem execDiag_next {s t : State} : execDiag s ≠ .next t := by simp [execDiag]

end Sys2Proof.Machine
end

