-- ==== Sys2Proof/Laws/PerInstr.lean ====
section
/-! SUPPORT. Facts about every operation as syntax, one lemma per constructor. -/

namespace Sys2Proof.Laws.OpcodeClass

/-- The opcode classes of an agent's operations, the upper four bits of the first byte (30_encoding.md R111, R113). -/
def classes : Agent → List Byte
  | .host => [0x0]
  | .sequencer => [0x1, 0x2]
  | .arbiter => [0x3]
  | .rxDma => [0x5]
  | .txDma => [0x5]
  | .uartTx => [0x5]
  | .line => [0x5]
  | .clock => [0x5]

/-- The first byte of an operation's word lies in a class of its agent, and the word is one to three bytes long. -/
def Statement (i : Instr) : Prop :=
  (encode i).headD 0 >>> 4 ∈ classes i.agent ∧ 1 ≤ (encode i).length ∧ (encode i).length ≤ 3

theorem init : Statement .init := by unfold Statement; decide
theorem exchange : Statement .exchange := by unfold Statement; decide
theorem bufwr (a : Half) (d : Byte) : Statement (.bufwr a d) := by simp [Statement, encode, classes, Instr.agent]
theorem bufrd (a : Half) : Statement (.bufrd a) := by simp [Statement, encode, classes, Instr.agent]
theorem diag : Statement .diag := by unfold Statement; decide
theorem xs1 : Statement .xs1 := by unfold Statement; decide
theorem xs2 : Statement .xs2 := by unfold Statement; decide
theorem xs3 : Statement .xs3 := by unfold Statement; decide
theorem xs4 : Statement .xs4 := by unfold Statement; decide
theorem xs5 : Statement .xs5 := by unfold Statement; decide
theorem xs6 : Statement .xs6 := by unfold Statement; decide
theorem xs7 : Statement .xs7 := by unfold Statement; decide
theorem xs8 : Statement .xs8 := by unfold Statement; decide
theorem xs9 : Statement .xs9 := by unfold Statement; decide
theorem xs10e : Statement .xs10e := by unfold Statement; decide
theorem xs10p : Statement .xs10p := by unfold Statement; decide
theorem xs10t : Statement .xs10t := by unfold Statement; decide
theorem xs10s : Statement .xs10s := by unfold Statement; decide
theorem xs11 : Statement .xs11 := by unfold Statement; decide
theorem xs12 : Statement .xs12 := by unfold Statement; decide
theorem xs13 : Statement .xs13 := by unfold Statement; decide
theorem dmaCb (derr : Bool) : Statement (.dmaCb derr) := by unfold Statement; cases derr <;> decide
theorem uartIrq : Statement .uartIrq := by unfold Statement; decide
theorem lineRx (b : Byte) (ne fe : Bool) : Statement (.lineRx b ne fe) := by
  cases ne <;> cases fe <;> simp [Statement, encode, classes, Instr.agent]
theorem lineIdle : Statement .lineIdle := by unfold Statement; decide
theorem lineTx : Statement .lineTx := by unfold Statement; decide
theorem dmaRxXfer : Statement .dmaRxXfer := by unfold Statement; decide
theorem dmaTxXfer : Statement .dmaTxXfer := by unfold Statement; decide
theorem dmaFault : Statement .dmaFault := by unfold Statement; decide
theorem tick (d : Time) : Statement (.tick d) := by simp [Statement, encode, classes, Instr.agent]

end Sys2Proof.Laws.OpcodeClass
end

