-- ==== Sys2Proof/Laws/Step.lean ====
section
/-! SUPPORT. What one step can do: nothing, when no word is left, or the operation at the head of the trace. -/

namespace Sys2Proof.Machine

/-- The decoder finds no word exactly in the empty trace. -/
theorem decode_endOfTrace_iff (bs : List Byte) : decode bs = .endOfTrace ↔ bs = [] := by
  cases bs with
  | nil => simp [decode]
  | cons opc tail =>
    simp only [decode, reduceCtorEq, iff_false]
    split
    · simp
    · split <;> simp

/-- A step that answers next has idled on an empty trace or run the decoded operation. -/
theorem step_next {s t : State} : step s = .next t ↔
    (s.trace = [] ∧ s = t) ∨
    ∃ i rest, decode s.trace = .word i rest ∧ exec i { s with trace := rest } = .next t := by
  unfold step
  cases h : decode s.trace with
  | endOfTrace => simp [(decode_endOfTrace_iff _).1 h]
  | word i rest =>
    have hn : s.trace ≠ [] := fun hn => by rw [(decode_endOfTrace_iff _).2 hn] at h; cases h
    simp [hn]
  | illegalOpcode opc =>
    have hn : s.trace ≠ [] := fun hn => by rw [(decode_endOfTrace_iff _).2 hn] at h; cases h
    simp [hn]
  | truncated opc =>
    have hn : s.trace ≠ [] := fun hn => by rw [(decode_endOfTrace_iff _).2 hn] at h; cases h
    simp [hn]

end Sys2Proof.Machine
end

