-- ==== Sys2Proof/Machine/Causes.lean ====
section
/-! DEFINITION. The causes of 60_exceptions.md R301 and their signatures: which operation finds which cause in which
state, the result the caller sees and the counters that move. The block has no cause register (R300): these are views
for diagnosis and change nothing. -/

namespace Sys2Proof.Machine

/-- `E1` to `E11` (R301). -/
inductive Cause where
  | notGranted
  | timeout
  | dmaFault
  | overrunAtCompletion
  | lineErrorInExchange
  | lineErrorNoSession
  | malformedShort
  | checksumMismatch
  | corruptMarker
  | lengthOutOfRange
  | idleNoSession
deriving DecidableEq, Repr

/-- The number of a cause in R301's table, 1 for `E1`. -/
def Cause.number : Cause → Nat
  | .notGranted => 1
  | .timeout => 2
  | .dmaFault => 3
  | .overrunAtCompletion => 4
  | .lineErrorInExchange => 5
  | .lineErrorNoSession => 6
  | .malformedShort => 7
  | .checksumMismatch => 8
  | .corruptMarker => 9
  | .lengthOutOfRange => 10
  | .idleNoSession => 11

/-- The result of the exchange, where the cause decides one (R301). `E1` shows in `INIT_RESULT`, not here. -/
def Cause.result : Cause → Option Result
  | .timeout => some .timeout
  | .dmaFault | .overrunAtCompletion | .lineErrorInExchange | .malformedShort | .checksumMismatch | .corruptMarker
  | .lengthOutOfRange => some .protocolError
  | .notGranted | .lineErrorNoSession | .idleNoSession => none

/-- The counters of the signature that move where the cause is found or, for `E2`, at `XS10S` (R301). -/
def Cause.counters : Cause → List Counter
  | .timeout => [.timeout]
  | .lineErrorInExchange | .lineErrorNoSession => [.uart]
  | .malformedShort => [.badidle]
  | .checksumMismatch | .corruptMarker | .lengthOutOfRange => [.crc]
  | .notGranted | .dmaFault | .overrunAtCompletion | .idleNoSession => []

/-- The counters of the signature that move later in the same exchange, at `XS10P` (R301, in brackets there). -/
def Cause.laterCounters : Cause → List Counter
  | .dmaFault | .overrunAtCompletion | .lineErrorInExchange | .malformedShort => [.dmaerr]
  | .notGranted | .timeout | .lineErrorNoSession | .checksumMismatch | .corruptMarker | .lengthOutOfRange
  | .idleNoSession => []

/-- A one-element list or none. -/
def causeIf (p : Bool) (c : Cause) : List Cause := if p then [c] else []

/-- What the validator finds (R301, `E8` to `E10`); the first two may hold together. -/
def State.frameCauses (s : State) : List Cause :=
  match s.frameLen with
  | .error _ => []
  | .ok len =>
    if len < minFrame || s.cfg.cap.toNat < len then [.lengthOutOfRange]
    else
      match s.memRead 0 len with
      | .error _ => []
      | .ok frame =>
        causeIf (frame.getD (len - 1) 0 != s.crc8 (frame.take (len - 1) ++ [0x00])) .checksumMismatch ++
          causeIf (s.isCorrupt (frame.getD 2 0)) .corruptMarker

/-- Whether the frame boundary detector takes what has been received for a malformed short reception (R213). -/
def State.shortIsMalformed (s : State) : Bool :=
  decide (s.measuredLen.toNat < 1) ||
    (match s.frameLen with
    | .error _ => false
    | .ok declared => decide (s.measuredLen.toNat < declared))

/-- The causes an operation finds in a state in which it is enabled (R301, columns "found by" and "condition"). -/
def State.causesFound (s : State) : Instr → List Cause
  | .init => causeIf (!(s.cfg.rxchAvail && s.cfg.txchAvail)) .notGranted
  | .xs10t => [.timeout]
  | .dmaCb derr =>
    causeIf (derr && decide (s.rxstatus = .waiting)) .dmaFault ++
      causeIf (decide (s.rxstatus = .waiting) && (s.uart.ore || s.uart.rxne)) .overrunAtCompletion
  | .uartIrq =>
    if s.uart.lineErr then
      (if s.rxstatus = .waiting then [.lineErrorInExchange] else [.lineErrorNoSession])
    else if s.uart.idle then
      (if s.rxstatus = .waiting then causeIf s.shortIsMalformed .malformedShort else [.idleNoSession])
    else []
  | .xs12 => if s.outcome = .pending then s.frameCauses else []
  | .exchange | .bufwr _ _ | .bufrd _ | .diag | .xs1 | .xs2 | .xs3 | .xs4 | .xs5 | .xs6 | .xs7 | .xs8 | .xs9
  | .xs10e | .xs10p | .xs10s | .xs11 | .xs13 | .lineRx _ _ _ | .lineIdle | .lineTx | .dmaRxXfer | .dmaTxXfer
  | .dmaFault | .tick _ => []

end Sys2Proof.Machine
end

