-- ==== Sys2Proof/Tests/Slice0.lean ====
section
/-! SUPPORT. The model's own tests. Expected results come from spec/95_test_vectors.md (its section is named in each
comment) or from the rule's own example; the last part shows, for every obligation with hypotheses, a state and
operands that meet them. -/

namespace Sys2Proof.Tests

open Sys2Proof Sys2Proof.Machine

/-! ### Helpers -/

/-- The outcome is a next state with the property. -/
def nextIs (o : Host.Outcome State Fault Refusal) (p : State → Bool) : Bool :=
  match o with
  | .next t => p t
  | .fault _ => false
  | .refused _ => false

def faultIs (o : Host.Outcome State Fault Refusal) (f : Fault) : Bool :=
  match o with
  | .next _ => false
  | .fault g => decide (g = f)
  | .refused _ => false

def refusedAs (o : Host.Outcome State Fault Refusal) (r : Refusal) : Bool :=
  match o with
  | .next _ => false
  | .fault _ => false
  | .refused q => decide (q = r)

/-- The reference parameters with a capacity, and a clock that makes every value a number. -/
def cfgOf (cap : Half) : Config :=
  { Config.reference with cap := cap, uartClock := 84000000, brrValue := brrValueOf 84000000 1500000 }

def fresh (cap : Half) : State := State.resetWith (cfgOf cap)

/-- Bytes at rising indices. -/
def memOf : Nat → List Byte → Memory
  | _, [] => []
  | i, b :: bs => (i, b) :: memOf (i + 1) bs

/-- The fields a successful `INIT` leaves (95, section 0). -/
def ready (cap : Half) : State :=
  { fresh cap with
    inited := true, initResult := .ok, irqAttached := true
    uart := { Uart.reset with brr := 56, ue := true, te := true, re := true, idleie := true, eie := true } }

/-- An exchange in flight with its receive channel running, as the setup steps leave it. -/
def flight (cap : Half) (q : Seq) (buf : List Byte) : State :=
  { ready cap with
    seq := q, rxstatus := .waiting, perfActive := true, mem := memOf 0 buf
    uart := { (ready cap).uart with dmar := true, dmat := true }
    rxdma := ⟨true, true, cap, cap, true⟩ }

/-- The wait of an exchange, posted or not. -/
def waiting (cap : Half) : State :=
  { flight cap .wait [0x06, 0x00, 0x00, 0xAA, 0xBB, 0xE1] with crit := true, deadline := 10000 }

/-- The frames of 95, section 0. -/
def req4 : List Byte := [0x04, 0x00, 0x00, 0x58]
def rep : List Byte := [0x06, 0x00, 0x00, 0xAA, 0xBB, 0xE1]
def repbad : List Byte := [0x06, 0x00, 0x00, 0xAB, 0xBB, 0xE1]
def repcor : List Byte := [0x06, 0x00, 0x40, 0xAA, 0xBB, 0x7A]

/-! ### Well-formedness: what no word can hold -/

theorem test_wf_bufwr_index : Instr.wellFormed (.bufwr 256 0) = false := by decide
theorem test_wf_bufrd_index : Instr.wellFormed (.bufrd 0xFFFF) = false := by decide
theorem test_wf_tick_count : Instr.wellFormed (.tick 65536) = false := by decide
theorem test_wf_boundaries : Instr.wellFormed (.bufwr 255 0) = true ∧ Instr.wellFormed (.bufrd 255) = true ∧
    Instr.wellFormed (.tick 65535) = true := by decide

/-! ### Decoding: a word for every constructor (95, section 2.1; 30 R113, R119) -/

theorem test_decode_host : decode [0x01] = .word .init [] ∧ decode [0x02] = .word .exchange [] ∧
    decode [0x03, 0x09, 0x54] = .word (.bufwr 9 0x54) [] ∧ decode [0x03, 0xFF, 0x00] = .word (.bufwr 255 0) [] ∧
    decode [0x04, 0x05] = .word (.bufrd 5) [] ∧ decode [0x0F] = .word .diag [] := by decide

theorem test_decode_setup : decode [0x11] = .word .xs1 [] ∧ decode [0x12] = .word .xs2 [] ∧
    decode [0x13] = .word .xs3 [] ∧ decode [0x14] = .word .xs4 [] ∧ decode [0x15] = .word .xs5 [] ∧
    decode [0x16] = .word .xs6 [] ∧ decode [0x17] = .word .xs7 [] ∧ decode [0x18] = .word .xs8 [] ∧
    decode [0x19] = .word .xs9 [] := by decide

theorem test_decode_wait : decode [0x1A] = .word .xs10e [] ∧ decode [0x1B] = .word .xs10p [] ∧
    decode [0x2B] = .word .xs10t [] ∧ decode [0x1C] = .word .xs10s [] ∧ decode [0x1D] = .word .xs11 [] ∧
    decode [0x1E] = .word .xs12 [] ∧ decode [0x1F] = .word .xs13 [] := by decide

theorem test_decode_arbiter : decode [0x30] = .word (.dmaCb false) [] ∧ decode [0x31] = .word (.dmaCb true) [] ∧
    decode [0x32] = .word .uartIrq [] := by decide

theorem test_decode_line : decode [0x50, 0xAA] = .word (.lineRx 0xAA false false) [] ∧
    decode [0x51, 0x55] = .word (.lineRx 0x55 true false) [] ∧
    decode [0x52, 0x00] = .word (.lineRx 0x00 false true) [] ∧
    decode [0x53, 0xFF] = .word (.lineRx 0xFF true true) [] := by decide

theorem test_decode_platform : decode [0x54] = .word .lineIdle [] ∧ decode [0x55] = .word .lineTx [] ∧
    decode [0x56] = .word .dmaRxXfer [] ∧ decode [0x57] = .word .dmaTxXfer [] ∧
    decode [0x58] = .word .dmaFault [] := by decide

theorem test_decode_tick : decode [0x59, 0x10, 0x27] = .word (.tick 10000) [] ∧
    decode [0x59, 0x00, 0x00] = .word (.tick 0) [] ∧ decode [0x59, 0xFF, 0xFF] = .word (.tick 65535) [] := by decide

/-- The `02` is the data operand of `BUFWR`, not `EXCHANGE`. -/
theorem test_decode_leaves_the_rest : decode [0x03, 0x00, 0x02, 0x11] = .word (.bufwr 0 2) [0x11] := by decide

theorem test_decode_illegal : decode [0x00] = .illegalOpcode 0x00 ∧ decode [0x05] = .illegalOpcode 0x05 ∧
    decode [0x0E] = .illegalOpcode 0x0E ∧ decode [0x10] = .illegalOpcode 0x10 ∧
    decode [0x20] = .illegalOpcode 0x20 ∧ decode [0x2A] = .illegalOpcode 0x2A ∧
    decode [0x2C] = .illegalOpcode 0x2C ∧ decode [0x33] = .illegalOpcode 0x33 ∧
    decode [0x4F] = .illegalOpcode 0x4F ∧ decode [0x5A] = .illegalOpcode 0x5A ∧
    decode [0xFF] = .illegalOpcode 0xFF := by decide

theorem test_decode_truncated : decode [0x03, 0x00] = .truncated 0x03 ∧ decode [0x50] = .truncated 0x50 ∧
    decode [0x59, 0x10] = .truncated 0x59 := by decide

/-- No byte matches two rows of the opcode map. -/
theorem test_opcode_rows_disjoint :
    opcodeTable.Pairwise (fun r q => (r.mask &&& q.mask) &&& (r.pat ^^^ q.pat) ≠ 0) := by decide

/-- Words numbered as the opcode table numbers them: the first byte lowest. -/
theorem test_table_words : decodeTableWord 8 0x2B = some .xs10t ∧
    decodeTableWord 24 0x540903 = some (.bufwr 9 0x54) ∧ decodeTableWord 8 0x03 = some (.bufwr 0 0) ∧
    decodeTableWord 16 0x5551 = some (.lineRx 0x55 true false) ∧ decodeTableWord 8 0x10 = none := by decide

/-! ### Host commands (95, section 2.4) -/

theorem test_init_fields : nextIs (exec .init (fresh 16)) (fun t => decide (t = ready 16)) = true := by decide
theorem test_init_without_channel :
    nextIs (exec .init (State.resetWith { cfgOf 16 with txchAvail := false }))
      (fun t => decide (t.initResult = .resourceExhausted ∧ t.inited = false ∧ t.uart = Uart.reset)) = true := by decide
theorem test_exchange_after_init :
    nextIs (exec .exchange (ready 16)) (fun t => decide (t.seq = .s1 ∧ t.resultValid = false)) = true := by decide
theorem test_exchange_before_init : refusedAs (exec .exchange (fresh 16)) .callerError = true := by decide
theorem test_bufwr_before_init :
    nextIs (exec (.bufwr 0 0x0A) (fresh 16)) (fun t => decide (Memory.read t.mem 0 = some 0x0A)) = true := by decide
theorem test_bufwr_outside : refusedAs (exec (.bufwr 16 0) (fresh 16)) .callerError = true := by decide
theorem test_bufrd_returns : nextIs (exec (.bufrd 5) { ready 16 with mem := memOf 0 rep })
    (fun t => decide (t.hostOut = [0xE1])) = true := by decide
theorem test_bufrd_unwritten : faultIs (exec (.bufrd 0) (fresh 16)) (.unwrittenBuffer 0) = true := by decide
theorem test_diag_refused : refusedAs (exec .diag (ready 16)) .diagNotModelled = true := by decide

/-! ### Sequencer (95, section 2.5) -/

theorem test_xs1 : nextIs (exec .xs1 { ready 16 with seq := .s1, now := 5 })
    (fun t => decide (t.seq = .s2 ∧ t.perfT0 = 5 ∧ t.perfActive = true)) = true := by decide
theorem test_xs2 :
    nextIs (exec .xs2 { ready 16 with seq := .s2, uart := { (ready 16).uart with rxne := true, ore := true } })
      (fun t => decide (t.seq = .s3 ∧ t.uart = (ready 16).uart)) = true := by decide
theorem test_xs3 : nextIs (exec .xs3 { ready 16 with seq := .s3 })
    (fun t => decide (t.seq = .s4 ∧ t.rxstatus = .waiting)) = true := by decide
theorem test_xs4 : nextIs (exec .xs4 { ready 16 with seq := .s4, cbpend := some true })
    (fun t => decide (t.seq = .s5 ∧ t.rxdma = ⟨false, true, 16, 16, false⟩ ∧ t.cbpend = none)) = true := by decide
theorem test_xs5 : nextIs (exec .xs5 { ready 16 with seq := .s5, rxdma := ⟨false, true, 16, 16, false⟩ })
    (fun t => decide (t.seq = .s6 ∧ t.uart.dmar = true ∧ t.rxdma = ⟨true, true, 16, 16, true⟩)) = true := by decide
theorem test_xs5_in_s3 : refusedAs (exec .xs5 { ready 16 with seq := .s3 }) (.notEnabled .xs5) = true := by decide
theorem test_xs6 :
    nextIs (exec .xs6 (flight 16 .s6 req4)) (fun t => decide (t = flight 16 .s7 req4)) = true := by decide
theorem test_xs7_length_cap : nextIs (exec .xs7 (flight 16 .s7 [0x10, 0x00]))
    (fun t => decide (t.seq = .s8 ∧ t.txlen = 16 ∧ t.txdma = ⟨false, 16, 16⟩)) = true := by decide
theorem test_xs7_length_refused :
    faultIs (exec .xs7 (flight 16 .s7 [0x00, 0x00])) (.txLenOutOfRange 0) = true ∧
    faultIs (exec .xs7 (flight 16 .s7 [0x11, 0x00])) (.txLenOutOfRange 17) = true := by decide
theorem test_xs8 : nextIs (exec .xs8 { ready 16 with seq := .s8, txdma := ⟨false, 10, 10⟩ })
    (fun t => decide (t.seq = .s9 ∧ t.uart.cr3 = 0x0081 ∧ t.txdma.en = true)) = true := by decide
theorem test_xs9 : nextIs (exec .xs9 { flight 16 .s9 [] with now := 10107 })
    (fun t => decide (t.seq = .s10 ∧ t.deadline = 20107)) = true := by decide
theorem test_xs10e : nextIs (exec .xs10e (flight 16 .s10 []))
    (fun t => decide (t.seq = .wait ∧ t.crit = true)) = true := by decide
theorem test_xs10p_error : nextIs (exec .xs10p { waiting 16 with sig := 1, rxstatus := .completedError })
    (fun t => decide (t.sig = 0 ∧ t.cnt.dmaerr = 1 ∧ t.outcome = .protocolError ∧ t.seq = .s11)) = true := by decide
theorem test_xs10p_no_post : refusedAs (exec .xs10p (waiting 16)) (.notEnabled .xs10p) = true := by decide
theorem test_xs10t_at_deadline : nextIs (exec .xs10t { waiting 16 with now := 10000 })
    (fun t => decide (t.rxstatus = .inactive ∧ t.sleepUntil = 10007 ∧ t.seq = .sleep ∧ t.uart.cr3 = 0x0001)) = true := by
  decide
theorem test_xs10t_too_early :
    refusedAs (exec .xs10t { waiting 16 with now := 9999 }) (.notEnabled .xs10t) = true := by decide
theorem test_xs10s : nextIs (exec .xs10s { waiting 16 with seq := .sleep, sleepUntil := 10007, now := 10007 })
    (fun t => decide (t.cnt.timeout = 1 ∧ t.perfActive = false ∧ t.outcome = .timeout ∧ t.seq = .s11)) = true := by decide
theorem test_xs10s_too_early :
    refusedAs (exec .xs10s { waiting 16 with seq := .sleep, sleepUntil := 10007, now := 10006 }) (.notEnabled .xs10s) =
      true := by decide
theorem test_xs11 : nextIs (exec .xs11 { waiting 16 with seq := .s11, rxstatus := .completedOk })
    (fun t => decide (t.crit = false ∧ t.rxstatus = .inactive ∧ t.seq = .s12)) = true := by decide
theorem test_xs12_bad_checksum : nextIs (exec .xs12 { flight 16 .s12 repbad with outcome := .pending })
    (fun t => decide (t.cnt.crc = 1 ∧ t.outcome = .protocolError ∧ t.seq = .s13)) = true := by decide +kernel
theorem test_xs12_after_timeout : nextIs (exec .xs12 { flight 16 .s12 repbad with outcome := .timeout })
    (fun t => decide (t.cnt.crc = 0 ∧ t.outcome = .timeout ∧ t.seq = .s13)) = true := by decide
theorem test_xs13_sample : nextIs (exec .xs13 { flight 16 .s13 rep with outcome := .success, now := 100 })
    (fun t => decide (t.durLast = 100 ∧ t.cnt.txn = 1 ∧ t.result = .success ∧ t.resultValid = true ∧ t.seq = .idle)) =
      true := by decide
theorem test_xs13_no_sample :
    nextIs (exec .xs13 { flight 16 .s13 rep with outcome := .timeout, perfActive := false, now := 100 })
      (fun t => decide (t.durLast = 0 ∧ t.cnt.txn = 0 ∧ t.result = .timeout)) = true := by decide

/-! ### Arbiter and detectors (95, sections 2.6 and 2.7) -/

/-- `SR = 0xB8`, `RDR = 66`: the drain leaves `SR = 0x80`. -/
theorem test_drain : ({ fresh 16 with
      uart := { Uart.reset with rxne := true, idle := true, ore := true, rdr := 0x66 } } : State).uart.sr = 0xB8 ∧
    State.uart (State.drainAndClear { fresh 16 with
      uart := { Uart.reset with rxne := true, idle := true, ore := true, rdr := 0x66 } }) =
        { Uart.reset with rdr := 0x66 } := by decide

theorem test_complete_noise_stays :
    (State.complete { waiting 16 with uart := { (waiting 16).uart with ne := true } } .ok).rxstatus = .completedOk ∧
    (State.complete { waiting 16 with uart := { (waiting 16).uart with ne := true } } .ok).uart.ne = true := by decide

theorem test_dma_cb_overrun : nextIs (exec (.dmaCb false)
    { waiting 16 with cbpend := some false, uart := { (waiting 16).uart with ore := true, rxne := true } })
    (fun t => decide (t.rxstatus = .completedError ∧ t.sig = 1 ∧ t.cbpend = none ∧ t.uart.sr = 0x80)) = true := by decide
theorem test_dma_cb_mismatch :
    refusedAs (exec (.dmaCb true) { waiting 16 with cbpend := some false }) (.notEnabled (.dmaCb true)) = true := by decide

/-- `len = 6 >= 6` is accepted; `len = 3 < 6` is malformed. -/
theorem test_uart_irq_short : nextIs (exec .uartIrq { waiting 16 with
      uart := { (waiting 16).uart with idle := true }, rxdma := ⟨true, true, 16, 10, true⟩ })
    (fun t => decide (t.rxlen = 6 ∧ t.cnt.idle = 1 ∧ t.rxstatus = .completedOk ∧ t.sig = 1)) = true ∧
    nextIs (exec .uartIrq { waiting 16 with
      uart := { (waiting 16).uart with idle := true }, rxdma := ⟨true, true, 16, 13, true⟩ })
    (fun t => decide (t.rxlen = 3 ∧ t.cnt.badidle = 1 ∧ t.rxstatus = .completedError ∧ t.sig = 1)) = true := by decide
/-- `FE` with `IDLE`: the error branch, the idle flag unexamined. -/
theorem test_uart_irq_framing : nextIs (exec .uartIrq { waiting 16 with
      uart := { (waiting 16).uart with fe := true, idle := true }, rxdma := ⟨true, true, 16, 14, true⟩ })
    (fun t => decide (t.cnt.uart = 1 ∧ t.cnt.idle = 0 ∧ t.rxlen = 0 ∧ t.rxstatus = .completedError ∧ t.uart.cr3 = 1)) =
      true := by decide

/-! ### Platform agents and clock (95, sections 2.8 and 2.9) -/

theorem test_line_rx_overrun :
    nextIs (exec (.lineRx 0x77 false false) { ready 16 with uart := { (ready 16).uart with rxne := true, rdr := 0xAA } })
      (fun t => decide (t.uart.ore = true ∧ t.uart.rdr = 0xAA)) = true := by decide
theorem test_line_rx_framing : nextIs (exec (.lineRx 0x00 false true) (ready 16))
    (fun t => decide (t.uart.rdr = 0 ∧ t.uart.rxne = true ∧ t.uart.fe = true ∧ t.uart.ne = false)) = true := by decide
theorem test_line_idle : nextIs (exec .lineIdle (ready 16)) (fun t => t.uart.idle && t.irqRequest) = true := by decide
theorem test_line_idle_before_init :
    refusedAs (exec .lineIdle (fresh 16)) (.notEnabled .lineIdle) = true := by decide
theorem test_line_tx :
    nextIs (exec .lineTx { ready 16 with uart := { (ready 16).uart with txe := false, tdr := 0x0A }, txout := [1] })
      (fun t => decide (t.txout = [1, 0x0A] ∧ t.uart.txe = true)) = true := by decide
theorem test_dma_rx_first : nextIs (exec .dmaRxXfer { flight 16 .wait [] with
      uart := { (flight 16 .wait []).uart with rxne := true, rdr := 0x06 } })
    (fun t => decide (Memory.read t.mem 0 = some 0x06 ∧ t.uart.rxne = false ∧ t.rxdma.ndtr = 15)) = true := by decide
theorem test_dma_rx_wrap : nextIs (exec .dmaRxXfer { flight 8 .wait [] with
      uart := { (flight 8 .wait []).uart with rxne := true, rdr := 0x79 }, rxdma := ⟨true, true, 8, 1, true⟩ })
    (fun t => decide (Memory.read t.mem 7 = some 0x79 ∧ t.rxdma = ⟨true, true, 8, 8, true⟩ ∧ t.cbpend = some false)) =
      true := by decide
theorem test_dma_tx_first : nextIs (exec .dmaTxXfer { flight 16 .wait [0x0A] with txdma := ⟨true, 10, 10⟩ })
    (fun t => decide (t.uart.tdr = 0x0A ∧ t.uart.txe = false ∧ t.txdma = ⟨true, 10, 9⟩)) = true := by decide
theorem test_dma_tx_last :
    nextIs (exec .dmaTxXfer { flight 16 .wait [] with mem := [(9, 0x54)], txdma := ⟨true, 10, 1⟩ })
      (fun t => decide (t.uart.tdr = 0x54 ∧ t.txdma = ⟨false, 10, 0⟩)) = true := by decide
theorem test_dma_fault : nextIs (exec .dmaFault { flight 16 .wait [] with cbpend := some false })
    (fun t => decide (t.rxdma.en = false ∧ t.cbpend = some true)) = true := by decide
theorem test_tick : nextIs (exec (.tick 65535) { ready 16 with now := 65535 })
    (fun t => decide (t.now = 131070)) = true := by decide

/-! ### Checksum and validator (95, sections 2.2 and 2.3) -/

theorem test_crc8 : crc8Ref [0x04, 0x00, 0x00, 0x00] = 0x58 ∧ crc8Ref [0x06, 0x00, 0x00, 0xAA, 0xBB, 0x00] = 0xE1 ∧
    crc8Ref [0x06, 0x00, 0x40, 0xAA, 0xBB, 0x00] = 0x7A ∧
    crc8Ref [0x0A, 0x00, 0x00, 0x01, 0x02, 0x03, 0x04, 0x05, 0x06, 0x00] = 0x54 := by decide +kernel

theorem test_is_corrupt : isCorruptRef 0x40 = true ∧ isCorruptRef 0x7F = true ∧ isCorruptRef 0x80 = false ∧
    isCorruptRef 0xC0 = false ∧ isCorruptRef 0x3F = false := by decide

theorem test_frame_len : frameLenRef 0x06 0x00 = 6 ∧ frameLenRef 0x00 0x01 = 256 := by decide

theorem test_crc_check : (flight 16 .s12 rep).crcCheck.toOption = some .good ∧
    (flight 16 .s12 repbad).crcCheck.toOption = some .bad ∧ (flight 16 .s12 repcor).crcCheck.toOption = some .bad ∧
    (flight 16 .s12 [0x03, 0x00, 0x00]).crcCheck.toOption = some .bad ∧
    (flight 16 .s12 [0x11, 0x00]).crcCheck.toOption = some .bad := by decide +kernel

theorem test_crc_check_unwritten :
    faultIs (exec .xs12 { flight 16 .s12 [] with
      outcome := .pending, mem := [(0, 0x06), (1, 0x00), (2, 0x00), (3, 0xAA), (5, 0xE1)] }) (.unwrittenBuffer 4) =
      true := by decide

/-! ### The causes of R301 (signatures named by P2, P4, P6, P7, P8, P11, P22) -/

theorem test_causes_status_interrupt :
    ({ waiting 16 with uart := { (waiting 16).uart with idle := true }, rxdma := ⟨true, true, 16, 13, true⟩ }).causesFound
      .uartIrq = [.malformedShort] ∧
    ({ waiting 16 with uart := { (waiting 16).uart with fe := true, idle := true } }).causesFound
      .uartIrq = [.lineErrorInExchange] ∧
    ({ ready 16 with uart := { (ready 16).uart with ne := true } }).causesFound .uartIrq = [.lineErrorNoSession] ∧
    ({ ready 16 with uart := { (ready 16).uart with idle := true } }).causesFound .uartIrq = [.idleNoSession] ∧
    ({ waiting 16 with uart := { (waiting 16).uart with ore := true } }).causesFound
      (.dmaCb false) = [.overrunAtCompletion] := by decide

theorem test_causes_validator :
    ({ flight 16 .s12 repbad with outcome := .pending }).causesFound .xs12 = [.checksumMismatch] ∧
    ({ flight 16 .s12 repcor with outcome := .pending }).causesFound
      .xs12 = [.corruptMarker] ∧
    ({ flight 16 .s12 [0x03, 0x00, 0x00] with outcome := .pending }).causesFound .xs12 = [.lengthOutOfRange] ∧
    ({ flight 16 .s12 rep with outcome := .pending }).causesFound .xs12 = [] := by decide +kernel

/-! ### The schedule assumptions on the line (R285) -/

/-- The idle line directly after a byte, or after that byte's transfer, once. -/
theorem test_idle_gate_opens : IdleGate.after .closed (waiting 16) (.lineRx 0x06 false false) = .afterByte true ∧
    IdleGate.after (.afterByte true) (waiting 16) .dmaRxXfer = .afterTransfer ∧
    IdleGate.after .afterTransfer (waiting 16) .lineIdle = .closed := by decide
/-- A byte lost to an overrun has no transfer of its own: the transfer of the earlier byte closes the gate. -/
theorem test_idle_gate_lost_byte :
    IdleGate.after (.afterByte true) { waiting 16 with uart := { (waiting 16).uart with rxne := true } }
      (.lineRx 0x07 false false) = .afterByte false ∧
    IdleGate.after (.afterByte false) (waiting 16) .dmaRxXfer = .closed := by decide
/-- The whole request sent while `SEQ` is `S9`: the restriction admits a line event (assumption log 23). -/
theorem test_half_duplex_in_s9 : peerHalfDuplex (flight 16 .s9 []) (.lineRx 0x06 false false) ∧
    ¬ noEarlyEvent (flight 16 .s9 []) (.lineRx 0x06 false false) :=
  ⟨fun _ h => absurd ⟨by decide, rfl, rfl⟩ h, fun h => absurd (h (by decide)).1 (by decide)⟩

/-! ### Views (10 R31, R47; 45 R104; 60 R312) -/

theorem test_images : Uart.reset.sr = 0x80 ∧ (ready 16).uart.cr1 = 0x201C ∧ (ready 16).uart.cr3 = 0x0001 ∧
    (flight 16 .wait []).uart.cr3 = 0x00C1 ∧ (ready 16).uart.reg 0x08 = some 56 := by decide

theorem test_observation : (waiting 16).observe 0 = some 0x4F ∧ (waiting 16).observe 1 = some 11 ∧
    (waiting 16).observe 4 = some 10000 ∧ (ready 16).observe 2 = some 4 ∧ (ready 16).observe 19 = none := by decide

theorem test_char_ticks : charTicksOf 1500000 = 7 := by decide

theorem test_modes : (fresh 16).mode = .uninitialised ∧ (ready 16).mode = .ready ∧ (waiting 16).mode = .busy := by decide

/-! ### Step and trace (30 R110, R115) -/

theorem test_step_runs_the_table_word :
    nextIs (step ((fresh 16).withFetchWord 24 0x0A0003)) (fun t => decide (Memory.read t.mem 0 = some 0x0A ∧ t.trace = [])) =
      true := by decide
theorem test_step_truncated : refusedAs (step { ready 16 with trace := [0x59, 0x10] }) .illegalWord = true := by decide

/-! ### Assembler (30 R117, R118, R119) -/

theorem test_assemble_line :
    assemble "RXB 0xAA # one clean byte\nTICK 10000\nBUFWR 9,0x54".toList =
      some [0x50, 0xAA, 0x56, 0x59, 0x10, 0x27, 0x03, 0x09, 0x54] := by decide
theorem test_assemble_pseudo :
    assemble "LOAD 0, 0x0A,0x00\nEXCHANGE\nSETUP\nSEND 1\nREPLY 6\nFINISH".toList =
      some [0x03, 0x00, 0x0A, 0x03, 0x01, 0x00, 0x02, 0x11, 0x12, 0x13, 0x14, 0x15, 0x16, 0x17, 0x18, 0x19, 0x1A,
        0x57, 0x55, 0x50, 0x06, 0x56, 0x54, 0x32, 0x1D, 0x1E, 0x1F] := by decide
theorem test_assemble_index_too_large : assemble "BUFWR 256,0".toList = none := by decide

/-! ### Witnesses: for each obligation with hypotheses, states and operands that meet them, clause by clause -/

/-- A line error, an idle condition, as the status interrupt finds them. -/
def withFlags (s : State) (ore ne fe idle rxne : Bool) : State :=
  { s with uart := { s.uart with ore := ore, ne := ne, fe := fe, idle := idle, rxne := rxne } }

theorem witness_DecodeOfEncode : Instr.wellFormed (.bufwr 255 0xFF) = true ∧ Instr.wellFormed (.tick 65535) = true ∧
    Instr.wellFormed (.lineRx 0x55 true true) = true := by decide
theorem witness_DecodedWordIsItsEncoding : decode (0x59 :: [0xFF, 0xFF, 0x11]) = .word (.tick 65535) [0x11] ∧
    decode (0x03 :: [0xFF, 0x00]) = .word (.bufwr 255 0) [] := by decide
theorem witness_WordLengthsAndIllegalWords : wordLength 0x2B ≠ none ∧
    State.trace { ready 16 with trace := [0x2A] } = 0x2A :: [] ∧ wordLength 0x2A = none ∧
    State.trace { ready 16 with trace := [0x03, 0x00] } = 0x03 :: [0x00] ∧ wordLength 0x03 = some 3 ∧
    [(0x00 : Byte)].length + 1 < 3 := by decide
theorem witness_StepRunsDecodedWord :
    decode (State.trace { ready 16 with trace := [0x59, 0x01, 0x00, 0x11] }) = .word (.tick 1) [0x11] ∧
    nextIs (step { ready 16 with trace := [0x59, 0x01, 0x00, 0x11] }) (fun t => decide (t.trace = [0x11])) = true ∧
    (ready 16).trace = [] := by decide
theorem witness_InitConfiguresOrReports :
    ((fresh 16).inited = false ∧ (fresh 16).seq = .idle ∧ (fresh 16).cfg.rxchAvail = true ∧
      (fresh 16).cfg.txchAvail = true ∧ (fresh 16).uart.txe = true) ∧
    (State.inited (State.resetWith { cfgOf 16 with rxchAvail := false }) = false ∧
      ¬ (({ cfgOf 16 with rxchAvail := false } : Config).rxchAvail = true ∧
        ({ cfgOf 16 with rxchAvail := false } : Config).txchAvail = true)) ∧
    (ready 16).inited = true ∧ (waiting 16).seq ≠ .idle := by decide
theorem witness_ExchangeEntersSequence : ((ready 16).inited = true ∧ (ready 16).seq = .idle) ∧
    (fresh 16).inited = false ∧ (waiting 16).seq ≠ .idle := by decide
theorem witness_BufwrWritesOneByte : ((ready 16).seq = .idle ∧ (15 : Half).toNat < (ready 16).cfg.cap.toNat) ∧
    (waiting 16).seq ≠ .idle ∧ (ready 16).cfg.cap.toNat ≤ (16 : Half).toNat := by decide
theorem witness_BufrdReturnsTheByte :
    (State.seq { ready 16 with mem := [(15, 7)] } = .idle ∧ (15 : Half).toNat < (ready 16).cfg.cap.toNat ∧
      Memory.read [(15, 7)] 15 = some 7) ∧
    ((ready 16).seq = .idle ∧ Memory.read (ready 16).mem 0 = none) ∧
    (waiting 16).seq ≠ .idle ∧ (ready 16).cfg.cap.toNat ≤ (16 : Half).toNat := by decide
theorem witness_OpeningSteps : (flight 16 .s1 []).seq = .s1 ∧ (flight 16 .s2 []).seq = .s2 ∧
    (flight 16 .s3 []).seq = .s3 ∧ (ready 16).seq ≠ .s1 ∧ (ready 16).seq ≠ .s2 ∧ (ready 16).seq ≠ .s3 := by decide
theorem witness_Xs4ProgramsReceive : (flight 16 .s4 []).seq = .s4 ∧ (ready 16).seq ≠ .s4 := by decide
theorem witness_Xs5StartsReceive : (withFlags (flight 16 .s5 []) false false false false true).seq = .s5 ∧
    (withFlags (flight 16 .s5 []) false false false false true).uart.rxne = true ∧ (ready 16).seq ≠ .s5 := by decide
theorem witness_Xs6FlushChangesNothingElse : (flight 16 .s6 []).seq = .s6 ∧ (ready 16).seq ≠ .s6 := by decide
theorem witness_Xs7ProgramsTransmit :
    ((flight 16 .s7 [0x10, 0x00]).frameLen = .ok 16 ∧ 1 ≤ 16 ∧ 16 ≤ (flight 16 .s7 [0x10, 0x00]).cfg.cap.toNat) ∧
    (flight 16 .s7 [0x01, 0x00]).frameLen = .ok 1 ∧ (flight 16 .s7 [0x00, 0x00]).frameLen = .ok 0 ∧
    ((flight 16 .s7 [0x11, 0x00]).frameLen = .ok 17 ∧ (flight 16 .s7 [0x11, 0x00]).cfg.cap.toNat < 17) ∧
    (flight 16 .s7 [0x06]).frameLen = .error (.unwrittenBuffer 1) ∧ (flight 16 .s7 []).seq = .s7 ∧
    (ready 16).seq ≠ .s7 :=
  ⟨⟨rfl, by decide, by decide⟩, rfl, rfl, ⟨rfl, by decide⟩, rfl, rfl, by decide⟩
theorem witness_Xs8StartsTransmit : (flight 16 .s8 []).seq = .s8 ∧ (ready 16).seq ≠ .s8 := by decide
theorem witness_Xs9ArmsTheDeadline : (flight 16 .s9 []).seq = .s9 ∧ ClockPremise (flight 16 .s9 []) ∧
    (ready 16).seq ≠ .s9 := by unfold ClockPremise; decide
theorem witness_CriticalSectionSteps : (flight 16 .s10 []).seq = .s10 ∧ (ready 16).seq ≠ .s10 ∧
    (flight 16 .s11 []).seq = .s11 ∧ (ready 16).seq ≠ .s11 := by decide
/-- The wait with a completion accepted. -/
def posted (st : RxStatus) : State :=
  { waiting 16 with
    sig := 1, rxstatus := st, uart := (ready 16).uart, rxdma := ⟨false, true, 16, 10, true⟩ }
theorem witness_Xs10pTakesThePost :
    ((posted .completedError).seq = .wait ∧ 0 < (posted .completedError).sig ∧
      (posted .completedError).rxstatus = .completedError) ∧
    (posted .completedOk).rxstatus ≠ .completedError ∧ (ready 16).seq ≠ .wait ∧ (waiting 16).sig = 0 := by decide
theorem witness_Xs10tAbortsAtTheDeadline :
    (State.seq { waiting 16 with now := 10000 } = .wait ∧ (waiting 16).sig = 0 ∧
      (waiting 16).deadline.toNat ≤ (10000 : Time).toNat) ∧
    (ready 16).seq ≠ .wait ∧ 0 < (posted .completedOk).sig ∧ (9999 : Time).toNat < (waiting 16).deadline.toNat := by
  decide
theorem witness_Xs10sEndsTheSleep :
    (State.seq { waiting 16 with seq := .sleep, sleepUntil := 10007, now := 10007 } = .sleep ∧
      (10007 : Time).toNat ≤ (10007 : Time).toNat) ∧
    (ready 16).seq ≠ .sleep ∧ (10006 : Time).toNat < (10007 : Time).toNat := by decide
theorem witness_Xs12JudgesTheReply :
    (State.outcome { flight 16 .s12 rep with outcome := .pending } = .pending ∧
      State.crcCheck { flight 16 .s12 rep with outcome := .pending } = .ok .good) ∧
    State.crcCheck { flight 16 .s12 repbad with outcome := .pending } = .ok .bad ∧
    State.crcCheck { flight 16 .s12 [] with outcome := .pending } = .error (.unwrittenBuffer 0) ∧
    (flight 16 .s12 rep).seq = .s12 ∧ (flight 16 .s12 rep).outcome ≠ .pending ∧ (ready 16).seq ≠ .s12 :=
  ⟨⟨rfl, by decide +kernel⟩, by decide +kernel, rfl, rfl, by decide, by decide⟩
theorem witness_Xs13Returns :
    (State.seq { flight 16 .s13 [] with outcome := .success } = .s13 ∧ (flight 16 .s13 []).perfActive = true) ∧
    State.outcome { flight 16 .s13 [] with outcome := .timeout, perfActive := false } = .timeout ∧
    State.outcome { flight 16 .s13 [] with outcome := .protocolError } = .protocolError ∧ (ready 16).seq ≠ .s13 := by
  decide
theorem witness_CompleteActsOnceAndOverrunWins :
    (ready 16).rxstatus ≠ .waiting ∧ (waiting 16).rxstatus = .waiting ∧
    (withFlags (waiting 16) true false false false false).uart.ore = true ∧
    (withFlags (waiting 16) false false false false true).uart.rxne = true ∧
    ((waiting 16).uart.ore = false ∧ (waiting 16).uart.rxne = false) := by decide
theorem witness_DmaCbCompletes :
    (State.cbpend { waiting 16 with cbpend := some false } = some false ∧ (waiting 16).rxstatus = .waiting) ∧
    (State.cbpend { ready 16 with cbpend := some true } = some true ∧ (ready 16).rxstatus ≠ .waiting) ∧
    (ready 16).cbpend ≠ some false := by decide
theorem witness_UartIrqLineErrorsAndIdleWithoutSession :
    (enabled (withFlags (waiting 16) false false true true false) .uartIrq = true ∧
      (withFlags (waiting 16) false false true true false).uart.fe = true ∧ (waiting 16).rxstatus = .waiting) ∧
    (enabled (withFlags (ready 16) true false false false true) .uartIrq = true ∧ (ready 16).rxstatus ≠ .waiting) ∧
    (enabled (withFlags (ready 16) false false false true false) .uartIrq = true ∧
      (withFlags (ready 16) false false false true false).uart.ore = false) ∧
    enabled (withFlags (ready 16) false false false false true) .uartIrq = false := by decide
/-- A waiting session with the idle flag up and a residual count. -/
def idleAt (buf : List Byte) (ndtr : Half) : State :=
  { withFlags (flight 16 .wait buf) false false false true false with rxdma := ⟨true, true, 16, ndtr, true⟩ }
theorem witness_UartIrqAcceptsShortReceptionIff :
    (enabled (idleAt rep 10) .uartIrq = true ∧ (idleAt rep 10).rxstatus = .waiting ∧
      (idleAt rep 10).frameLen = .ok 6 ∧
      1 ≤ ((idleAt rep 10).cfg.cap - (idleAt rep 10).rxdma.ndtr).toNat ∧
      6 ≤ ((idleAt rep 10).cfg.cap - (idleAt rep 10).rxdma.ndtr).toNat) ∧
    ¬ (6 ≤ ((idleAt rep 11).cfg.cap - (idleAt rep 11).rxdma.ndtr).toNat) ∧
    (enabled (idleAt [] 16) .uartIrq = true ∧ (idleAt [] 16).cfg.cap = (idleAt [] 16).rxdma.ndtr) ∧
    (enabled (idleAt [6] 15) .uartIrq = true ∧ (idleAt [6] 15).cfg.cap ≠ (idleAt [6] 15).rxdma.ndtr ∧
      (idleAt [6] 15).frameLen = .error (.unwrittenBuffer 1)) :=
  ⟨⟨by decide, rfl, rfl, by decide, by decide⟩, by decide, ⟨by decide, by decide⟩, by decide, by decide, rfl⟩
theorem witness_LineRxDeliversOrOverruns : ((ready 16).uart.ue = true ∧ (ready 16).uart.re = true) ∧
    (ready 16).uart.rxne = false ∧ (withFlags (ready 16) false false false false true).uart.rxne = true ∧
    (fresh 16).uart.ue = false := by decide
theorem witness_LineIdleSetsTheFlag : ((ready 16).uart.ue = true ∧ (ready 16).uart.re = true ∧
    (ready 16).irqAttached = true ∧ (ready 16).uart.idleie = true) ∧ (fresh 16).uart.ue = false := by decide
/-- A byte received, with a residual count. -/
def rxAt (ndtr : Half) (circ cb : Bool) : State :=
  { withFlags (flight 16 .wait []) false false false false true with rxdma := ⟨true, circ, 16, ndtr, cb⟩ }
theorem witness_DmaRxXferStoresOneByte :
    (enabled (rxAt 16 true true) .dmaRxXfer = true ∧ (rxAt 16 true true).rxIndex < 16 ∧
      (rxAt 16 true true).rxdma.ndtr ≠ 1) ∧
    (enabled (rxAt 1 true true) .dmaRxXfer = true ∧ (rxAt 1 true true).rxIndex = 15 ∧ (rxAt 1 true true).cbpend = none) ∧
    (enabled (rxAt 1 false false) .dmaRxXfer = true ∧ (rxAt 1 false false).rxdma.circ = false ∧
      (rxAt 1 false false).rxdma.cb = false) ∧
    enabled (ready 16) .dmaRxXfer = false := by decide
/-- A transmission under way, with a residual count. -/
def txAt (m : Memory) (ndtr : Half) : State := { flight 16 .wait [] with mem := m, txdma := ⟨true, 10, ndtr⟩ }
theorem witness_DmaTxXferMovesOneByte :
    (enabled (txAt [(0, 10)] 10) .dmaTxXfer = true ∧ (txAt [(0, 10)] 10).txIndex = 0 ∧
      Memory.read (txAt [(0, 10)] 10).mem 0 = some 10 ∧ (txAt [(0, 10)] 10).txdma.ndtr ≠ 1) ∧
    (enabled (txAt [(9, 0x54)] 1) .dmaTxXfer = true ∧ (txAt [(9, 0x54)] 1).txIndex = 9 ∧
      (txAt [(9, 0x54)] 1).txdma.ndtr = 1) ∧
    (enabled (txAt [] 10) .dmaTxXfer = true ∧ Memory.read (txAt [] 10).mem 0 = none) ∧
    enabled (ready 16) .dmaTxXfer = false := by decide
theorem witness_LineTxSendsTheHoldingRegister :
    (Uart.txe { (ready 16).uart with txe := false } = false ∧ (ready 16).uart.ue = true ∧ (ready 16).uart.te = true) ∧
    (ready 16).uart.txe = true ∧ (fresh 16).uart.ue = false ∧ (fresh 16).uart.te = false := by decide
theorem witness_DmaFaultRaisesAnErrorEvent : (waiting 16).rxdma.en = true ∧ (ready 16).rxdma.en = false := by decide
theorem witness_CrcCheckVerdict :
    ((flight 16 .s12 rep).frameLen = .ok rep.length ∧ 4 ≤ rep.length ∧
      rep.length ≤ (flight 16 .s12 rep).cfg.cap.toNat ∧
      ∀ i, i < rep.length → Memory.read (flight 16 .s12 rep).mem i = rep[i]?) ∧
    (flight 16 .s12 [0x03, 0x00]).frameLen = .ok 3 ∧ (flight 16 .s12 [0x11, 0x00]).frameLen = .ok 17 ∧
    ((flight 16 .s12 [0x04, 0x00]).frameLen = .ok 4 ∧
      ∃ i, i < 4 ∧ Memory.read (flight 16 .s12 [0x04, 0x00]).mem i = none) :=
  ⟨⟨rfl, by decide, by decide, by decide⟩, rfl, rfl, rfl, 2, by decide, by decide⟩
theorem witness_FrameLenReadsTheSizeField :
    (cfgOf 4).wf = true ∧ (cfgOf 65535).wf = true ∧ (flight 4 .s7 [0x06, 0x01]).cfg.frameLen = .reference ∧
    Memory.read (flight 4 .s7 [0x06, 0x01]).mem 0 = some 0x06 ∧
    Memory.read (flight 4 .s7 [0x06, 0x01]).mem 1 = some 0x01 ∧ Memory.read (flight 4 .s7 []).mem 0 = none ∧
    Memory.read (flight 4 .s7 [0x06]).mem 1 = none := by decide
theorem witness_ReferenceCrcIsLinear : [(0x01 : Byte), 0x02].length = [(0x03 : Byte), 0x04].length := by decide
theorem witness_FrameOfEveryOperation : ∃ t, exec .xs5 (flight 16 .s5 []) = .next t := ⟨_, rfl⟩
theorem witness_EmptyFrameMeansEqual : Memory.wf (waiting 16).mem = true ∧ Frame [] (waiting 16) (waiting 16) := by
  refine ⟨by decide, fun f _ => ?_⟩
  cases f <;> rfl
theorem witness_FaultsOnlyWhereNamed :
    exec .xs12 { flight 16 .s12 [] with outcome := .pending } = .fault (.unwrittenBuffer 0) ∧
    exec .xs7 (flight 16 .s7 [0x00, 0x00]) = .fault (.txLenOutOfRange 0) ∧
    exec .xs7 (flight 16 .s7 [0x11, 0x00]) = .fault (.txLenOutOfRange 17) := ⟨rfl, rfl, rfl⟩
theorem witness_SequencerFollowsTheTable : (∃ t, exec .xs10t { waiting 16 with now := 10000 } = .next t) ∧
    ∃ t, exec (.tick 1) (waiting 16) = .next t := ⟨⟨_, rfl⟩, _, rfl⟩

theorem waiting_session : SessionInv (waiting 16) := by
  refine ⟨⟨?_, ?_, ?_, ?_, ?_⟩, ?_⟩ <;> decide
theorem waiting_lifecycle : LifecycleInv (waiting 16) := by
  refine ⟨?_, ?_, ?_, ?_, ?_, ?_, ?_, ?_, ?_, ?_, ?_⟩ <;> decide
theorem waiting_dma : DmaInv (waiting 16) := by
  refine ⟨by decide, by decide, by decide, by decide, fun a b h => ?_⟩
  simp only [waiting, flight, memOf, Memory.read] at h
  have hc : (waiting 16).cfg.cap.toNat = 16 := rfl
  repeat' (split at h; · omega)
  cases h

theorem witness_SessionInvariantKept :
    SessionInv (waiting 16) ∧ step (waiting 16) = .next (waiting 16) := ⟨waiting_session, rfl⟩
theorem witness_LifecycleInvariantKept :
    SessionInv (waiting 16) ∧ LifecycleInv (waiting 16) ∧ step (waiting 16) = .next (waiting 16) :=
  ⟨waiting_session, waiting_lifecycle, rfl⟩
theorem witness_DmaInvariantKept :
    DmaInv (waiting 16) ∧ step (waiting 16) = .next (waiting 16) := ⟨waiting_dma, rfl⟩
theorem witness_MemoryFormAndCounterWidthKept :
    (∃ t, step { fresh 16 with trace := [0x03, 0x05, 0x01] } = .next t) ∧ Memory.wf (fresh 16).mem = true ∧
    CountersFit (fresh 16) := ⟨⟨_, rfl⟩, rfl, fun c => by cases c <;> decide⟩
theorem witness_InvariantsHoldAtReset : (cfgOf 4).wf = true ∧ (cfgOf 65535).wf = true := by decide
theorem witness_ReachableStatesMeetSessionRules :
    Reachable { State.resetWith (cfgOf 16) with trace := [0x01] } := .start (cfgOf 16) [0x01] (by decide)
theorem witness_EnabledAfterReset : (cfgOf 16).wf = true ∧ (15 : Half).toNat < (cfgOf 16).cap.toNat := by decide
theorem witness_PostOnlyFromWaiting :
    ∃ t, exec (.dmaCb false) { waiting 16 with cbpend := some false } = .next t ∧ (waiting 16).sig < t.sig :=
  ⟨_, rfl, by decide⟩

/-- A restriction on operations, checked along one execution. -/
def alongB (ok : State → Instr → Bool) : State → List Instr → Bool
  | _, [] => true
  | s, i :: is => ok s i && nextIs (exec i s) fun t => alongB ok t is

theorem along_of_alongB {ok : State → Instr → Prop} {okB : State → Instr → Bool}
    (h : ∀ s i, okB s i = true → ok s i) (s : State) (is : List Instr) (ha : alongB okB s is = true) :
    Along ok s is := by
  induction is generalizing s with
  | nil => trivial
  | cons i is ih =>
    simp only [alongB, Bool.and_eq_true] at ha
    refine ⟨h s i ha.1, fun t ht => ih t ?_⟩
    simpa [ht, nextIs] using ha.2

/-- An exchange that nothing answers (P3): the shortest way from `IDLE` back to `IDLE`. -/
def unanswered : List Instr :=
  .exchange :: asmSetup ++ [.tick 10000, .xs10t, .tick 7, .xs10s] ++ asmFinish

/-- Its start: initialised, with the least request in the buffer. -/
def launch : State := { ready 16 with mem := memOf 0 req4 }

theorem launch_session : SessionInv launch := by refine ⟨⟨?_, ?_, ?_, ?_, ?_⟩, ?_⟩ <;> decide

theorem launch_premise : LaunchPremise launch := ⟨4, rfl, by decide, by decide, fun i hi => by
  have h : i < 4 := hi
  match i, h with
  | 0, _ => exact ⟨_, rfl⟩
  | 1, _ => exact ⟨_, rfl⟩
  | 2, _ => exact ⟨_, rfl⟩
  | 3, _ => exact ⟨_, rfl⟩⟩

theorem witness_ReturnLeavesChannelsStopped :
    SessionInv launch ∧ launch.seq = .idle ∧ Stopped launch ∧ Along xs8FindsWaiting launch unanswered ∧
    ∃ t, runOps launch unanswered = .next t ∧ t.seq = .idle :=
  ⟨launch_session, rfl, ⟨rfl, rfl, rfl, rfl⟩,
    along_of_alongB (okB := fun s i => decide (i = .xs8 → s.rxstatus = .waiting)) (fun _ _ h => of_decide_eq_true h) _ _
      (by decide),
    _, rfl, rfl⟩
theorem witness_ScheduleAssumptionsExcludeHz1 :
    SessionInv launch ∧ Stopped launch ∧ Along noEarlyEvent launch unanswered ∧ Along promptCb launch unanswered ∧
    ∃ t, runOps launch unanswered = .next t ∧ t.seq = .idle :=
  ⟨launch_session, ⟨rfl, rfl, rfl, rfl⟩,
    along_of_alongB (okB := fun s i => decide (s.seq.inSetup = true → isLineEvent i = false ∧ i ≠ .dmaFault))
      (fun _ _ h => of_decide_eq_true h) _ _ (by decide),
    along_of_alongB (okB := fun s i => decide (s.cbpend ≠ none → isLineEvent i = false ∧ i ≠ .uartIrq ∧
      i.agent ≠ .sequencer)) (fun _ _ h => of_decide_eq_true h) _ _ (by decide),
    _, rfl, rfl⟩
/-- A fair run through the timeout path: the wait, the sleep, the return; then the clock runs to its last value. -/
def fairOps : List Instr :=
  [.tick 10000, .xs10t, .tick 7, .xs10s, .xs11, .xs12, .xs13, .tick (0xFFFFFFFFFFFFFFFF - 10007)]
def fairOp (n : Nat) : Instr := fairOps.getD n (.tick 0)
def fairState : Nat → State
  | 0 => waiting 16
  | n + 1 =>
    match exec (fairOp n) (fairState n) with
    | .next t => t
    | .fault _ => fairState n
    | .refused _ => fairState n
theorem fairOp_late (n : Nat) : fairOp (n + 8) = .tick 0 := by
  simp [fairOp, fairOps, List.getD]
theorem exec_tick_zero (s : State) : exec (.tick 0) s = .next s := by simp [exec, execTick]
theorem fairState_next {n : Nat} {t : State} (h : exec (fairOp n) (fairState n) = .next t) : fairState (n + 1) = t := by
  rw [fairState, h]
theorem fairState_late (n : Nat) : fairState (n + 8) = fairState 8 := by
  induction n with
  | zero => rfl
  | succ n ih =>
    rw [show n + 1 + 8 = n + 8 + 1 by omega]
    exact fairState_next (by rw [fairOp_late, exec_tick_zero, ih])
theorem fairState_end : (fairState 8).seq = .idle ∧ (fairState 8).now = 0xFFFFFFFFFFFFFFFF := by decide +kernel
theorem idle_not_enabled {i : Instr} {s : State} (hi : i.agent = .sequencer) (hs : s.seq = .idle) :
    enabled s i = false := by
  cases i <;> simp [Instr.agent] at hi <;> simp [enabled, hs]
theorem fair_execution : Execution fairState fairOp := by
  intro n
  match n with
  | 0 | 1 | 2 | 3 | 4 | 5 | 6 | 7 => rfl
  | n + 8 =>
    rw [fairOp_late, exec_tick_zero, fairState_late, show n + 8 + 1 = (n + 1) + 8 by omega, fairState_late (n + 1)]
theorem witness_EnabledSequencerStepPersists_fair :
    (waiting 16).seq ≠ .idle ∧ fairState 0 = waiting 16 ∧ Execution fairState fairOp ∧
      SequencerFair fairState fairOp ∧ TickFair fairState ∧ ClockNeverWraps fairState fairOp := by
  refine ⟨by decide, rfl, fair_execution, fun i n hi h => ?_, fun v => ⟨8, ?_⟩, fun n d h => ?_⟩
  · have := h (n + 8) (by omega)
    rw [fairState_late, idle_not_enabled hi fairState_end.1] at this
    cases this
  · rw [fairState_end.2]
    bv_omega
  · match n with
    | 0 => cases h; decide +kernel
    | 1 => cases h
    | 2 => cases h; decide +kernel
    | 3 => cases h
    | 4 => cases h
    | 5 => cases h
    | 6 => cases h
    | 7 => cases h; decide +kernel
    | n + 8 =>
      rw [fairOp_late] at h
      cases h
      exact (fairState (n + 8)).now.isLt
theorem witness_EnabledSequencerStepPersists :
    (Instr.agent .xs10t = .sequencer ∧ enabled { waiting 16 with now := 10000, cbpend := some false } .xs10t = true ∧
      ∃ t, exec (.dmaCb false) { waiting 16 with now := 10000, cbpend := some false } = .next t) ∧
    (enabled (flight 16 .s6 []) .xs6 = true ∧ ∃ t, exec (.tick 1) (flight 16 .s6 []) = .next t) :=
  ⟨⟨rfl, by decide, _, rfl⟩, by decide, _, rfl⟩
theorem witness_UnansweredWaitReturnsTimeout : SessionInv (waiting 16) ∧ LifecycleInv (waiting 16) ∧
    (waiting 16).seq = .wait ∧ (waiting 16).sig = 0 ∧
    (waiting 16).now.toNat + (10000 : Time).toNat + (waiting 16).cfg.sleepTicks.toNat < 2 ^ 64 ∧
    (waiting 16).deadline.toNat ≤ (waiting 16).now.toNat + (10000 : Time).toNat :=
  ⟨waiting_session, waiting_lifecycle, by decide, by decide, by decide, by decide⟩
theorem witness_AcceptedCompletionDecidesTheResult :
    (SessionInv (posted .completedError) ∧ LifecycleInv (posted .completedError)) ∧
    (SessionInv (posted .completedOk) ∧ LifecycleInv (posted .completedOk) ∧ (posted .completedOk).seq = .wait ∧
      (posted .completedOk).sig = 1 ∧ (posted .completedOk).crcCheck = .ok .good) := by
  refine ⟨⟨⟨⟨?_, ?_, ?_, ?_, ?_⟩, ?_⟩, ⟨?_, ?_, ?_, ?_, ?_, ?_, ?_, ?_, ?_, ?_, ?_⟩⟩,
    ⟨⟨?_, ?_, ?_, ?_, ?_⟩, ?_⟩, ⟨?_, ?_, ?_, ?_, ?_, ?_, ?_, ?_, ?_, ?_, ?_⟩, ?_, ?_, by decide +kernel⟩ <;> decide
theorem witness_NoTeardown : step (ready 16) = .next (ready 16) ∧ (ready 16).inited = true := ⟨rfl, rfl⟩
theorem witness_BufferSteersNothingElse : SameButBuf (flight 16 .s8 req4) (flight 16 .s8 rep) ∧
    (∃ t, exec .xs8 (flight 16 .s8 req4) = .next t) ∧ exec .xs9 (flight 16 .s8 req4) = .refused (.notEnabled .xs9) :=
  ⟨rfl, ⟨_, rfl⟩, rfl⟩

end Sys2Proof.Tests
end

section
/-! SUPPORT and PROOF. Frames: how they compose, the frame of each shared operation, and from these the frame of every
operation (O40). -/

namespace Sys2Proof.Machine

/-! ### The algebra of frames -/

/-- A frame may be checked one piece of the state at a time: each is listed or unchanged. -/
theorem Frame.of_mem_or_same {w : List Field} {s t : State} (h : ∀ f : Field, f ∈ w ∨ f.same s t) : Frame w s t :=
  fun f hf => (h f).resolve_left hf

theorem Field.same_refl (s : State) (f : Field) : f.same s s := by cases f <;> rfl

theorem Field.same_trans {f : Field} {s t u : State} (hst : f.same s t) (htu : f.same t u) : f.same s u := by
  cases f <;> exact Eq.trans htu hst

theorem Frame.refl (w : List Field) (s : State) : Frame w s s := fun f _ => f.same_refl s

/-- A longer list claims less. -/
theorem Frame.mono {v w : List Field} {s t : State} (h : Frame v s t) (hvw : v ⊆ w) : Frame w s t :=
  fun f hf => h f fun hv => hf (hvw hv)

/-- Two operations in a row write at most what one of them writes. -/
theorem Frame.comp {v w : List Field} {s t u : State} (hst : Frame v s t) (htu : Frame w t u) : Frame (v ++ w) s u :=
  fun f hf =>
    Field.same_trans (hst f fun hv => hf (List.mem_append_left w hv)) (htu f fun hw => hf (List.mem_append_right v hw))

/-! ### What the shared operations write -/

theorem State.drainAndClear_frame (s : State) : Frame drainFields s s.drainAndClear :=
  .of_mem_or_same fun f => by cases f <;> simp [Field.same, drainFields]

theorem State.requestsOff_frame (s : State) : Frame [.dmar, .dmat] s s.requestsOff :=
  .of_mem_or_same fun f => by cases f <;> simp [Field.same]

theorem State.stopRx_frame (s : State) : Frame [.rxEn] s s.stopRx :=
  .of_mem_or_same fun f => by cases f <;> simp [Field.same]

theorem State.stopTx_frame (s : State) : Frame [.txEn] s s.stopTx :=
  .of_mem_or_same fun f => by cases f <;> simp [Field.same]

theorem State.post_frame (s : State) : Frame [.sig] s s.post :=
  .of_mem_or_same fun f => by cases f <;> simp [Field.same]

/-- The piece of the state that holds a counter. -/
def Counter.field : Counter → Field
  | .txn => .cntTxn
  | .retry => .cntRetry
  | .timeout => .cntTimeout
  | .crc => .cntCrc
  | .dmaerr => .cntDmaerr
  | .proto => .cntProto
  | .uart => .cntUart
  | .idle => .cntIdle
  | .badidle => .cntBadidle

theorem State.count_frame (s : State) (c : Counter) : Frame [c.field] s (s.count c) :=
  .of_mem_or_same fun f => by
    cases f with
    | cntTxn | cntRetry | cntTimeout | cntCrc | cntDmaerr | cntProto | cntUart | cntIdle | cntBadidle =>
      cases c <;> simp [Field.same, Counter.field, Counters.count]
    | _ => exact .inr rfl

theorem State.abort_frame (s : State) : Frame ([.dmar, .dmat, .rxEn, .txEn] ++ drainFields) s s.abort :=
  ((s.requestsOff_frame.comp (State.stopRx_frame _)).comp (State.stopTx_frame _)).comp (State.drainAndClear_frame _)

/-- `Complete` writes its own fields, and the receive flags when it meets an overrun (R193). -/
theorem State.complete_frame (s : State) (st : Status) : Frame (completeFields ++ drainFields) s (s.complete st) := by
  by_cases h : s.rxstatus = .waiting
  · have hdrain : Frame drainFields s (if s.uart.overrunAtCompletion then s.drainAndClear else s) := by
      split
      · exact s.drainAndClear_frame
      · exact .refl _ s
    have hstatus (t : State) (r : RxStatus) : Frame [.rxstatus] t { t with rxstatus := r } :=
      .of_mem_or_same fun f => by cases f <;> simp [Field.same]
    rw [State.complete_waiting s st h]
    exact ((((hdrain.comp (hstatus _ _)).comp (State.requestsOff_frame _)).comp (State.stopRx_frame _)).comp
      (State.stopTx_frame _)).comp (State.post_frame _) |>.mono (by decide)
  · rw [State.complete_of_not_waiting s st h]
    exact .refl _ s

theorem State.rxAdvance_frame (s : State) : Frame [.rxNdtr, .cbpend, .rxEn] s s.rxAdvance :=
  .of_mem_or_same fun f => by cases f <;> simp [Field.same]

theorem State.emitSample_frame (s : State) : Frame [.cntTxn, .durLast, .perfActive] s s.emitSample := by
  rcases s.emitSample_cases with ⟨-, h⟩ | ⟨-, h⟩ <;> rw [h]
  · exact .of_mem_or_same fun f => by cases f <;> simp [Field.same, Counters.count]
  · exact .refl _ s

theorem State.publish_frame (s : State) : Frame [.result, .free] s s.publish := by
  rcases s.publish_cases with ⟨-, h⟩ | ⟨-, h⟩ | ⟨-, h⟩ | ⟨-, r, h⟩ <;> rw [h] <;>
    exact .of_mem_or_same fun f => by cases f <;> simp [Field.same]

theorem Uart.receive_frame (s : State) (b : Byte) (ne fe : Bool) :
    Frame [.rdr, .rxne, .ore, .ne, .fe] s { s with uart := s.uart.receive b ne fe } :=
  .of_mem_or_same fun f => by cases h : s.uart.rxne <;> cases f <;> simp [Field.same, Uart.receive, h]

/-- A write of the buffer reaches one byte (20_memory.md R71). -/
theorem State.memWrite_frame (s : State) (i : Nat) (b : Byte) :
    Frame [.buf i] s { s with mem := Memory.write s.mem i b } :=
  .of_mem_or_same fun f => by
    cases f with
    | buf a =>
      by_cases h : i = a
      · simp [h]
      · exact .inr (Memory.read_write_other s.mem i b a h)
    | _ => exact .inr rfl

theorem State.lineError_frame (s : State) :
    Frame (.cntUart :: completeFields ++ drainFields) s s.lineError := by
  rcases s.lineError_cases with ⟨-, h⟩ | ⟨-, h⟩ <;> rw [h]
  · exact ((s.count_frame .uart).comp (State.abort_frame _)).comp (State.complete_frame _ _) |>.mono (by decide)
  · exact (s.count_frame .uart).mono (by decide)

theorem State.malformed_frame (s : State) : Frame (.cntBadidle :: completeFields ++ drainFields) s s.malformed :=
  ((s.count_frame .badidle).comp (State.stopRx_frame _)).comp (State.complete_frame _ _) |>.mono (by decide)

theorem State.validShort_frame (s : State) : Frame (.cntIdle :: completeFields ++ drainFields) s s.validShort :=
  ((s.count_frame .idle).comp (State.stopRx_frame _)).comp (State.complete_frame _ _) |>.mono (by decide)

/-! ### What each operation writes -/

/-- `UART_IRQ`: the flags are drained in every row of R215; then a detector runs, the frame boundary one after it has
recorded the measured length. -/
theorem execUartIrq_frame {s t : State} (h : execUartIrq s = .next t) :
    Frame ([.cntUart, .cntBadidle, .cntIdle, .rxlen] ++ completeFields ++ drainFields) s t := by
  have hdrain := s.drainAndClear_frame
  have hmeasured : Frame (drainFields ++ [.rxlen]) s { s.drainAndClear with rxlen := s.measuredLen } :=
    hdrain.comp (.of_mem_or_same fun f => by cases f <;> simp [Field.same])
  have hmalformed := hmeasured.comp (State.malformed_frame _)
  have hvalid := hmeasured.comp (State.validShort_frame _)
  obtain ⟨-, ⟨-, rfl⟩ | ⟨-, ⟨-, rfl⟩ | ⟨-, ⟨-, rfl⟩ | ⟨-, _, -, ⟨-, rfl⟩ | ⟨-, rfl⟩⟩⟩⟩⟩ := execUartIrq_next.1 h
  · exact (hdrain.comp (State.lineError_frame _)).mono (by decide)
  · exact hdrain.mono (by decide)
  · exact hmalformed.mono (by decide)
  · exact hmalformed.mono (by decide)
  · exact hvalid.mono (by decide)

theorem execDmaCb_frame {derr : Bool} {s t : State} (h : execDmaCb derr s = .next t) :
    Frame (writes s (.dmaCb derr)) s t := by
  obtain ⟨-, rfl⟩ := execDmaCb_next.1 h
  have hconsumed : Frame [.cbpend] s { s with cbpend := none } :=
    .of_mem_or_same fun f => by cases f <;> simp [Field.same]
  exact hconsumed.comp (State.complete_frame _ _)

theorem execDmaRxXfer_frame {s t : State} (h : execDmaRxXfer s = .next t) : Frame (writes s .dmaRxXfer) s t := by
  obtain ⟨-, -, rfl⟩ := execDmaRxXfer_next.1 h
  have hread (t : State) : Frame [.rxne] t { t with uart := { t.uart with rxne := false } } :=
    .of_mem_or_same fun f => by cases f <;> simp [Field.same]
  exact ((s.memWrite_frame _ _).comp (hread _)).comp (State.rxAdvance_frame _)

theorem execXs13_frame {s t : State} (h : execXs13 s = .next t) : Frame (writes s .xs13) s t := by
  obtain ⟨-, rfl⟩ := execXs13_next.1 h
  have hreturn (t : State) : Frame [.resultValid, .seq] t { t with resultValid := true, seq := .idle } :=
    .of_mem_or_same fun f => by cases f <;> simp [Field.same]
  exact (s.emitSample_frame.comp (State.publish_frame _)).comp (hreturn _) |>.mono (by simp [writes])

/-- Every operation keeps all that its "State written" line does not name. Those that run shared operations are
composed of their frames; the others are one update of the state, which the inversion lemma gives. -/
theorem exec_frame {i : Instr} {s t : State} (h : exec i s = .next t) : Frame (writes s i) s t := by
  cases i
  case uartIrq => exact execUartIrq_frame h
  case dmaCb => exact execDmaCb_frame h
  case dmaRxXfer => exact execDmaRxXfer_frame h
  case xs13 => exact execXs13_frame h
  case diag => exact absurd h (execDiag_next (s := s))
  case bufwr a d => obtain ⟨-, rfl⟩ := execBufwr_next.1 h; exact s.memWrite_frame a.toNat d
  case lineRx b ne fe => obtain ⟨-, rfl⟩ := execLineRx_next.1 h; exact Uart.receive_frame s b ne fe
  case' init =>
    have hinit := execInit_next.1 h
    rw [State.initDone_eq] at hinit
    obtain ⟨-, ⟨-, rfl⟩ | ⟨-, rfl⟩⟩ := hinit
  case' exchange => obtain ⟨-, rfl⟩ := execExchange_next.1 h
  case' bufrd => obtain ⟨-, _, -, rfl⟩ := execBufrd_next.1 h
  case' xs1 => obtain ⟨-, rfl⟩ := execXs1_next.1 h
  case' xs2 => obtain ⟨-, rfl⟩ := execXs2_next.1 h
  case' xs3 => obtain ⟨-, rfl⟩ := execXs3_next.1 h
  case' xs4 => obtain ⟨-, rfl⟩ := execXs4_next.1 h
  case' xs5 => obtain ⟨-, rfl⟩ := execXs5_next.1 h
  case' xs6 => obtain ⟨-, rfl⟩ := execXs6_next.1 h
  case' xs7 => obtain ⟨-, _, -, -, -, rfl⟩ := execXs7_next.1 h
  case' xs8 => obtain ⟨-, rfl⟩ := execXs8_next.1 h
  case' xs9 => obtain ⟨-, rfl⟩ := execXs9_next.1 h
  case' xs10e => obtain ⟨-, rfl⟩ := execXs10e_next.1 h
  case' xs10p => obtain ⟨-, ⟨-, rfl⟩ | ⟨-, rfl⟩⟩ := execXs10p_next.1 h
  case' xs10t => obtain ⟨-, rfl⟩ := execXs10t_next.1 h
  case' xs10s => obtain ⟨-, rfl⟩ := execXs10s_next.1 h
  case' xs11 => obtain ⟨-, rfl⟩ := execXs11_next.1 h
  case' xs12 => obtain ⟨-, ⟨-, ⟨-, rfl⟩ | ⟨-, rfl⟩⟩ | ⟨-, rfl⟩⟩ := execXs12_next.1 h
  case' lineIdle => obtain ⟨-, rfl⟩ := execLineIdle_next.1 h
  case' lineTx => obtain ⟨-, rfl⟩ := execLineTx_next.1 h
  case' dmaTxXfer => obtain ⟨-, _, -, -, rfl⟩ := execDmaTxXfer_next.1 h
  case' dmaFault => obtain ⟨-, rfl⟩ := execDmaFault_next.1 h
  case' tick => cases execTick_next.1 h
  all_goals
    refine .of_mem_or_same fun f => ?_
    simp only [writes, drainFields, List.cons_append, List.nil_append, List.mem_cons, List.not_mem_nil, or_false]
    cases f <;> simp [Field.same, Counters.count]

/-- Settles O40: `exec_frame`, by cases on the operation. -/
theorem frameOfEveryOperation : Obligations.FrameOfEveryOperation := fun _ _ _ h => exec_frame h

end Sys2Proof.Machine
end

section
/-! SUPPORT and PROOF. Refusals: each meaning tests its guard before all else and refuses nothing behind it (O42). -/

namespace Sys2Proof.Machine

/-- A meaning that tests the operation's guard first, and whose body refuses nothing, is refused as R318 says. -/
theorem exec_refused_iff_of_guard {i : Instr} {s : State} {r : Refusal} {p : Prop} [Decidable p]
    {body : Host.Outcome State Fault Refusal} (hguard : enabled s i = true ↔ p) (hbody : body ≠ .refused r)
    (hexec : exec i s = if p then body else .refused (refusalOf i)) :
    exec i s = .refused r ↔ enabled s i = false ∧ r = refusalOf i := by
  rw [hexec, ← Bool.not_eq_true, hguard]
  by_cases h : p <;> simp [h, hbody, eq_comm]

/-- An access carried into an outcome refuses nothing that its continuation does not refuse. -/
theorem orFault_ne_refused {α : Type} {a : Except Fault α} {k : α → Host.Outcome State Fault Refusal} {r : Refusal}
    (hk : ∀ v, k v ≠ .refused r) : orFault a k ≠ .refused r := fun h =>
  let ⟨v, _, hv⟩ := orFault_refused.1 h
  hk v hv

theorem State.frameBoundary_ne_refused (s : State) (r : Refusal) : s.frameBoundary ≠ .refused r := by
  unfold State.frameBoundary
  dsimp only
  split_ifs
  · simp
  · exact orFault_ne_refused fun _ => by simp
  · simp

/-- Every operation is refused exactly when its guard is false, under the name R318 gives. Each meaning tests its guard
first; what is left to show of it is that nothing behind the guard is refused. -/
theorem exec_refused_iff {i : Instr} {s : State} {r : Refusal} :
    exec i s = .refused r ↔ enabled s i = false ∧ r = refusalOf i := by
  cases i
  case diag => simp [exec, execDiag, enabled, refusalOf, eq_comm]
  case tick => simp [exec, execTick, enabled]
  case init => exact exec_refused_iff_of_guard (by simp [enabled]) (by split <;> simp) rfl
  case xs10p => exact exec_refused_iff_of_guard Iff.rfl (by split <;> simp) rfl
  case xs12 =>
    refine exec_refused_iff_of_guard (by simp [enabled]) ?_ rfl
    split
    · exact orFault_ne_refused fun _ => by simp
    · simp
  case uartIrq =>
    refine exec_refused_iff_of_guard Iff.rfl ?_ rfl
    split_ifs
    · simp
    · exact State.frameBoundary_ne_refused _ _
    · simp
  case xs7 =>
    exact exec_refused_iff_of_guard (by simp [enabled]) (orFault_ne_refused fun _ => by split <;> simp) rfl
  case bufwr | bufrd | dmaRxXfer | dmaTxXfer =>
    exact exec_refused_iff_of_guard
      (by simp [enabled, State.rxRequest, State.txRequest, Uart.transmitterOn, and_assoc])
      (orFault_ne_refused fun _ => by simp) rfl
  all_goals
    exact exec_refused_iff_of_guard
      (by simp [enabled, State.expired, State.sleepOver, Uart.receiverOn, Uart.transmitterOn, and_assoc])
      (by simp) rfl

/-- Settles O42: `exec_refused_iff`, by cases on the operation. -/
theorem refusedExactlyWhenNotEnabled : Obligations.RefusedExactlyWhenNotEnabled := fun _ _ _ => exec_refused_iff

end Sys2Proof.Machine
end

section
/-! SUPPORT and PROOF. What one operation can do to the control state, and its two plainest consequences: a frame that
writes nothing is equality (O41), and `SEQ` follows the table (O44). -/

namespace Sys2Proof.Machine

/-- The pieces of a frame are the whole state; the bytes of `BUF` fix a canonical memory. -/
theorem Frame.eq_of_nil {s t : State} (hs : Memory.wf s.mem = true) (ht : Memory.wf t.mem = true)
    (h : Frame [] s t) : t = s :=
  have hf (f : Field) : f.same s t := h f List.not_mem_nil
  have hmem : t.mem = s.mem := Memory.ext_of_read _ _ ht hs fun a => hf (.buf a)
  have hcnt : t.cnt = s.cnt := (Counters.mk.injEq ..).mpr
    ⟨hf .cntTxn, hf .cntRetry, hf .cntTimeout, hf .cntCrc, hf .cntDmaerr, hf .cntProto, hf .cntUart, hf .cntIdle,
      hf .cntBadidle⟩
  have huart : t.uart = s.uart := (Uart.mk.injEq ..).mpr
    ⟨hf .ore, hf .ne, hf .fe, hf .idleFlag, hf .rxne, hf .txe, hf .rdr, hf .tdr, hf .brr, hf .ue, hf .te, hf .re,
      hf .idleie, hf .cr2, hf .eie, hf .dmar, hf .dmat⟩
  have hrxdma : t.rxdma = s.rxdma := (RxDma.mk.injEq ..).mpr
    ⟨hf .rxEn, hf .rxCirc, hf .rxLen, hf .rxNdtr, hf .rxCb⟩
  have htxdma : t.txdma = s.txdma := (TxDma.mk.injEq ..).mpr ⟨hf .txEn, hf .txLen, hf .txNdtr⟩
  (State.mk.injEq ..).mpr
    ⟨hf .inited, hf .seq, hf .rxstatus, hf .sig, hf .crit, hf .outcome, hf .result, hf .resultValid, hf .initResult,
      hf .perfActive, hf .deadline, hf .sleepUntil, hf .txlen, hf .rxlen, hf .perfT0, hf .durLast, hcnt, hmem, huart,
      hf .irqAttached, hrxdma, hf .cbpend, htxdma, hf .now, hf .txout, hf .hostOut, hf .trace, hf .free, hf .cfg⟩

/-- Settles O41: `Frame.eq_of_nil`. -/
theorem emptyFrameMeansEqual : Obligations.EmptyFrameMeansEqual := fun _ _ hs ht h => h.eq_of_nil hs ht

/-- An operation that takes a step is enabled, or it would have been refused. -/
theorem enabled_of_exec_next {i : Instr} {s t : State} (h : exec i s = .next t) : enabled s i = true := by
  by_contra hn
  rw [exec_refused_iff.2 ⟨Bool.not_eq_true _ ▸ hn, rfl⟩] at h
  cases h

/-- Where an exchange stands and what it has latched. -/
def progressFields : List Field := [.seq, .crit, .outcome, .perfActive, .resultValid, .result]

theorem progressFields_disjoint_writes {i : Instr} (s : State) (hex : i ≠ .exchange) (hag : i.agent ≠ .sequencer) :
    progressFields.Disjoint (writes s i) := by
  cases i <;> simp [progressFields, writes, drainFields, completeFields, Instr.agent] at hex hag ⊢

/-- Only `EXCHANGE` and the sequencer move an exchange on. -/
theorem exec_keeps_progress {i : Instr} {s t : State} (hex : i ≠ .exchange) (hag : i.agent ≠ .sequencer)
    (h : exec i s = .next t) {f : Field} (hf : f ∈ progressFields) : f.same s t :=
  exec_frame h f (progressFields_disjoint_writes s hex hag hf)

/-- `EXCHANGE` and each sequencer step run in the source of their row of R22's table and lead to its target. -/
theorem exec_seqTable {i : Instr} {s t : State} (hi : i = .exchange ∨ i.agent = .sequencer)
    (h : exec i s = .next t) : SeqEdge.mk s.seq i t.seq ∈ seqTable := by
  have hguard := enabled_of_exec_next h
  cases i
  case' exchange | xs1 | xs2 | xs3 | xs4 | xs5 | xs6 | xs8 | xs9 | xs10e | xs10t | xs10s | xs11 | xs13 =>
    obtain ⟨-, rfl⟩ := guarded_next.1 h
  case' xs7 => obtain ⟨-, _, -, -, -, rfl⟩ := execXs7_next.1 h
  case' xs10p => obtain ⟨-, ⟨-, rfl⟩ | ⟨-, rfl⟩⟩ := execXs10p_next.1 h
  case' xs12 => obtain ⟨-, ⟨-, ⟨-, rfl⟩ | ⟨-, rfl⟩⟩ | ⟨-, rfl⟩⟩ := execXs12_next.1 h
  all_goals simp_all [seqTable, enabled, Instr.agent]

/-- Settles O44: `EXCHANGE` and the sequencer move by `exec_seqTable`, all else leaves `SEQ`. -/
theorem sequencerFollowsTheTable : Obligations.SequencerFollowsTheTable := by
  intro i s t h
  by_cases hi : i = .exchange ∨ i.agent = .sequencer
  · exact .inl (exec_seqTable hi h)
  · rw [not_or] at hi
    exact .inr ⟨exec_keeps_progress hi.1 hi.2 h (f := .seq) (by decide), hi⟩

/-- What every operation keeps, and the rest of the trace does not matter to, every step keeps. -/
theorem step_keeps {P : State → Prop} (htrace : ∀ s rest, P s → P { s with trace := rest })
    (hexec : ∀ i s t, P s → exec i s = .next t → P t) {s t : State} (hs : P s) (h : step s = .next t) : P t := by
  obtain ⟨-, rfl⟩ | ⟨i, rest, -, hi⟩ := step_next.1 h
  · exact hs
  · exact hexec i _ t (htrace s rest hs) hi

/-- What holds at reset and every step keeps holds in every reachable state. -/
theorem Reachable.of_kept {P : State → Prop}
    (hreset : ∀ cfg trace, P { State.resetWith cfg with trace := trace })
    (hstep : ∀ s t, P s → step s = .next t → P t) {s : State} (hs : Reachable s) : P s := by
  induction hs with
  | start cfg trace _ => exact hreset cfg trace
  | next s t _ h ih => exact hstep s t ih h

end Sys2Proof.Machine
end

section
/-! SUPPORT and PROOF. The session: R46 read by the place in the sequence, the one way a session is completed, and from
these that every step keeps R46 (O45) and that every reachable state meets it (O50). -/

namespace Sys2Proof.Machine

/-! ### R46 at each place of the sequence -/

/-- What R46 and the clause that makes it inductive say of a state at each value of `SEQ`. -/
def State.sessionAt (s : State) : Seq → Prop
  | .idle => s.rxstatus = .inactive ∧ s.sig = 0 ∧ s.crit = false ∧ s.perfActive = false
  | .s1 | .s2 | .s3 | .s11 => s.rxstatus ≠ .waiting ∧ s.sig = 0
  | .s4 | .s5 | .s6 | .s7 | .s8 | .s9 | .s10 | .wait =>
    s.sig ≤ 1 ∧ (s.sig = 1 → s.rxstatus = .completedOk ∨ s.rxstatus = .completedError)
  | .sleep => s.rxstatus = .inactive ∧ s.sig = 0
  | .s12 | .s13 => s.rxstatus = .inactive ∧ s.sig = 0 ∧ s.crit = false

theorem sessionInv_iff {s : State} : SessionInv s ↔ s.sessionAt s.seq := by
  constructor
  · rintro ⟨⟨a, b, c, d, e⟩, tail⟩
    cases hq : s.seq <;> simp_all [State.sessionAt, Seq.setupToWait, Seq.code] <;> omega
  · intro h
    refine ⟨⟨?_, ?_, ?_, ?_, ?_⟩, ?_⟩ <;>
      cases hq : s.seq <;> simp_all [State.sessionAt, Seq.setupToWait, Seq.code]

/-- A session that waits has no signal to take (R46 (a), (b)). -/
theorem SessionInv.sig_eq_zero_of_waiting {s : State} (hi : SessionInv s) (hw : s.rxstatus = .waiting) :
    s.sig = 0 := by
  have hle := hi.rules.a
  have hne : s.sig ≠ 1 := fun h => by simpa [hw] using (hi.rules.b h).1
  omega

/-! ### Completion -/

/-- The session is left alone, or it was waiting and one completion of it was accepted and posted (R193). -/
def Accepted (s t : State) : Prop :=
  t.rxstatus = s.rxstatus ∧ t.sig = s.sig ∨
  s.rxstatus = .waiting ∧ (t.rxstatus = .completedOk ∨ t.rxstatus = .completedError) ∧ t.sig = s.sig + 1

theorem State.complete_accepted (s : State) (st : Status) : Accepted s (s.complete st) := by
  by_cases h : s.rxstatus = .waiting
  · exact .inr ⟨h, State.complete_rxstatus s st h ▸ s.adopted_cases st, State.complete_sig s st h⟩
  · exact .inl (by simp [State.complete_of_not_waiting s st h])

/-- Whatever leaves the session alone may come before `Complete`. -/
theorem State.complete_accepted_of_same {s u : State} (st : Status) (hr : u.rxstatus = s.rxstatus)
    (hs : u.sig = s.sig) : Accepted s (u.complete st) := by
  simpa only [Accepted, hr, hs] using u.complete_accepted st

theorem execUartIrq_accepted {s t : State} (h : execUartIrq s = .next t) : Accepted s t := by
  obtain ⟨-, ⟨-, rfl⟩ | ⟨-, ⟨-, rfl⟩ | ⟨-, ⟨-, rfl⟩ | ⟨-, _, -, ⟨-, rfl⟩ | ⟨-, rfl⟩⟩⟩⟩⟩ := execUartIrq_next.1 h
  · rcases s.drainAndClear.lineError_cases with ⟨-, h⟩ | ⟨-, h⟩ <;> rw [h]
    · exact State.complete_accepted_of_same _ (by simp) (by simp)
    · exact .inl (by simp)
  · exact .inl (by simp)
  all_goals exact State.complete_accepted_of_same _ (by simp) (by simp)

/-- Outside the sequencer and `INIT`, all that can befall a session is one completion, by a handler. -/
theorem exec_accepted {i : Instr} {s t : State} (hinit : i ≠ .init) (hag : i.agent ≠ .sequencer)
    (h : exec i s = .next t) : Accepted s t := by
  have hframe := exec_frame h
  cases i
  case uartIrq => exact execUartIrq_accepted h
  case dmaCb =>
    obtain ⟨-, rfl⟩ := execDmaCb_next.1 h
    exact State.complete_accepted_of_same _ rfl rfl
  case init => exact absurd rfl hinit
  case exchange | bufwr | bufrd | diag | lineRx | lineIdle | lineTx | dmaRxXfer | dmaTxXfer | dmaFault | tick =>
    exact .inl ⟨hframe .rxstatus (by simp [writes]), hframe .sig (by simp [writes])⟩
  all_goals exact absurd rfl hag

/-- A completion keeps R46: it can be accepted only between `S4` and `WAIT`, where no signal is up yet. -/
theorem SessionInv.of_accepted {s t : State} (hi : SessionInv s) (hseq : t.seq = s.seq) (hcrit : t.crit = s.crit)
    (hperf : t.perfActive = s.perfActive) (ha : Accepted s t) : SessionInv t := by
  have hat := sessionInv_iff.1 hi
  rw [sessionInv_iff, hseq]
  obtain ⟨hr, hs⟩ | ⟨hw, hr, hs⟩ := ha
  · cases hq : s.seq <;> simp_all [State.sessionAt]
  · have hzero := hi.sig_eq_zero_of_waiting hw
    cases hq : s.seq <;> simp_all [State.sessionAt]

/-! ### The sequencer and the host -/

theorem execInit_keeps_sessionInv {s t : State} (hi : SessionInv s) (h : execInit s = .next t) : SessionInv t := by
  rw [sessionInv_iff] at hi ⊢
  have hinit := execInit_next.1 h
  rw [State.initDone_eq] at hinit
  obtain ⟨⟨-, hq⟩, ⟨-, rfl⟩ | ⟨-, rfl⟩⟩ := hinit <;> simp_all [State.sessionAt]

/-- Taking the post takes the only signal, of a completed session (R170). -/
theorem execXs10p_keeps_sessionInv {s t : State} (hi : SessionInv s) (h : execXs10p s = .next t) : SessionInv t := by
  rw [sessionInv_iff] at hi ⊢
  obtain ⟨⟨hq, hpos⟩, ht⟩ := execXs10p_next.1 h
  rw [hq] at hi
  obtain ⟨hle, hcompleted⟩ := hi
  have hone : s.sig = 1 := by omega
  have hdone := hcompleted hone
  obtain ⟨-, rfl⟩ | ⟨-, rfl⟩ := ht <;> exact ⟨fun hw => by simp_all, by simp [hone]⟩

@[simp] theorem State.emitSample_perfActive (s : State) : s.emitSample.perfActive = false := by
  rcases s.emitSample_cases with ⟨-, h⟩ | ⟨hp, h⟩ <;> rw [h]
  exact hp

/-- `XS13` closes the duration sample, whether it records one or not (R175). -/
theorem execXs13_perfActive {s t : State} (h : execXs13 s = .next t) : t.perfActive = false := by
  obtain ⟨-, rfl⟩ := execXs13_next.1 h
  exact (State.publish_frame _ .perfActive (by simp)).trans s.emitSample_perfActive

/-- The return to the caller finds the session as `XS11` left it (R173, R175). -/
theorem execXs13_keeps_sessionInv {s t : State} (hi : SessionInv s) (h : execXs13 s = .next t) : SessionInv t := by
  rw [sessionInv_iff] at hi ⊢
  have hframe := execXs13_frame h
  have hr : t.rxstatus = s.rxstatus := hframe .rxstatus (by simp [writes])
  have hs : t.sig = s.sig := hframe .sig (by simp [writes])
  have hc : t.crit = s.crit := hframe .crit (by simp [writes])
  have hp := execXs13_perfActive h
  obtain ⟨hq, rfl⟩ := execXs13_next.1 h
  rw [hq] at hi
  exact ⟨hr.trans hi.1, hs.trans hi.2.1, hc.trans hi.2.2, hp⟩

/-- Each sequencer step leads from R46 at its source to R46 at its target; outside it a session can only be completed,
or found idle by `INIT` and `EXCHANGE`. -/
theorem exec_keeps_sessionInv {i : Instr} {s t : State} (hi : SessionInv s) (h : exec i s = .next t) :
    SessionInv t := by
  by_cases hout : i ≠ .init ∧ i ≠ .exchange ∧ i.agent ≠ .sequencer
  · obtain ⟨hinit, hex, hag⟩ := hout
    have hsame {f : Field} (hf : f ∈ progressFields) := exec_keeps_progress hex hag h hf
    exact hi.of_accepted (hsame (f := .seq) (by decide)) (hsame (f := .crit) (by decide))
      (hsame (f := .perfActive) (by decide)) (exec_accepted hinit hag h)
  cases i
  case init => exact execInit_keeps_sessionInv hi h
  case xs10p => exact execXs10p_keeps_sessionInv hi h
  case xs13 => exact execXs13_keeps_sessionInv hi h
  case' exchange | xs1 | xs2 | xs3 | xs4 | xs5 | xs6 | xs8 | xs9 | xs10e | xs10t | xs10s | xs11 =>
    obtain ⟨hq, rfl⟩ := guarded_next.1 h
  case' xs7 => obtain ⟨hq, _, -, -, -, rfl⟩ := execXs7_next.1 h
  case' xs12 => obtain ⟨hq, ⟨-, ⟨-, rfl⟩ | ⟨-, rfl⟩⟩ | ⟨-, rfl⟩⟩ := execXs12_next.1 h
  all_goals simp_all [sessionInv_iff, State.sessionAt, State.expired, State.sleepOver, Instr.agent]

theorem step_keeps_sessionInv {s t : State} (hi : SessionInv s) (h : step s = .next t) : SessionInv t :=
  step_keeps (fun _ _ hs => ⟨{ hs.rules with }, hs.tail⟩) (fun _ _ _ => exec_keeps_sessionInv) hi h

/-- Settles O45: `step_keeps_sessionInv`. -/
theorem sessionInvariantKept : Obligations.SessionInvariantKept := fun _ _ => step_keeps_sessionInv

theorem resetWith_sessionInv (cfg : Config) (trace : List Byte) :
    SessionInv { State.resetWith cfg with trace := trace } :=
  sessionInv_iff.2 ⟨rfl, rfl, rfl, rfl⟩

/-- Settles O50: `SessionInv` holds at reset and is kept, by induction on the run. -/
theorem reachableStatesMeetSessionRules : Obligations.ReachableStatesMeetSessionRules := fun _ hs =>
  (hs.of_kept resetWith_sessionInv fun _ _ => step_keeps_sessionInv).rules

end Sys2Proof.Machine
end

section
/-! SUPPORT and PROOF. The lifecycle: what `INIT` sets and only it, what an exchange has latched at each place of the
sequence, and from these that every step keeps the lifecycle invariant (O46). -/

namespace Sys2Proof.Machine

/-! ### The lifecycle invariant in two parts -/

/-- The part of the lifecycle invariant that `INIT` establishes: the enables, the attachment and the two marks that it
has run (R21, R33, R140, R341). -/
structure EnablesInv (s : State) : Prop where
  busyInited : s.seq ≠ .idle → s.inited = true
  on : s.inited = true → s.uart.ue = true ∧ s.uart.te = true ∧ s.uart.re = true ∧ s.uart.idleie = true ∧
    s.uart.eie = true ∧ s.irqAttached = true
  off : s.inited = false → s.uart.ue = false ∧ s.uart.te = false ∧ s.uart.re = false ∧ s.uart.idleie = false ∧
    s.uart.eie = false ∧ s.irqAttached = false ∧ s.rxdma.en = false ∧ s.txdma.en = false ∧ s.cbpend = none
  initOk : s.inited = true ↔ s.initResult = .ok

/-- The outcome after the wait, until the frame is checked (R170, R172). -/
def State.woken (s : State) : Prop := s.outcome = .pending ∨ s.outcome = .timeout ∨ s.outcome = .protocolError

/-- The outcome when the sequence ends (R174). -/
def State.decided (s : State) : Prop := s.outcome = .success ∨ s.outcome = .timeout ∨ s.outcome = .protocolError

/-- `RESULT` is the decided outcome (R28). -/
def State.published (s : State) : Prop :=
  s.outcome = .success ∧ s.result = .success ∨ s.outcome = .timeout ∧ s.result = .timeout ∨
    s.outcome = .protocolError ∧ s.result = .protocolError

/-- What an exchange has latched at each value of `SEQ`: the critical section, the outcome, the duration sample, and
whether a result is valid (R27, R28, R29, R357). -/
def State.latchAt (s : State) : Seq → Prop
  | .idle => s.crit = false ∧ s.perfActive = false ∧ (s.resultValid = true → s.published)
  | .s1 => s.crit = false ∧ s.resultValid = false ∧ s.outcome = .none ∧ s.perfActive = false
  | .s2 | .s3 | .s4 | .s5 | .s6 | .s7 | .s8 | .s9 | .s10 =>
    s.crit = false ∧ s.resultValid = false ∧ s.outcome = .none ∧ s.perfActive = true
  | .wait | .sleep => s.crit = true ∧ s.resultValid = false ∧ s.outcome = .none ∧ s.perfActive = true
  | .s11 => s.crit = true ∧ s.resultValid = false ∧ s.woken ∧ (s.perfActive = true ↔ s.outcome ≠ .timeout)
  | .s12 => s.crit = false ∧ s.resultValid = false ∧ s.woken ∧ (s.perfActive = true ↔ s.outcome ≠ .timeout)
  | .s13 => s.crit = false ∧ s.resultValid = false ∧ s.decided ∧ (s.perfActive = true ↔ s.outcome ≠ .timeout)

theorem lifecycleInv_iff {s : State} : LifecycleInv s ↔ EnablesInv s ∧ s.latchAt s.seq := by
  constructor
  · rintro ⟨busyInited, on, off, initOk, critical, before, after, last, sample, closed, valid⟩
    refine ⟨⟨busyInited, on, off, initOk⟩, ?_⟩
    clear busyInited on off initOk
    cases hq : s.seq <;> simp_all [State.latchAt, State.woken, State.decided, State.published, Seq.code]
  · rintro ⟨⟨busyInited, on, off, initOk⟩, h⟩
    refine ⟨busyInited, on, off, initOk, ?_, ?_, ?_, ?_, ?_, ?_, ?_⟩ <;> clear busyInited on off initOk <;>
      cases hq : s.seq <;> simp_all [State.latchAt, State.woken, State.decided, State.published, Seq.code]

/-! ### The enables -/

/-- What only `INIT` writes (40_host_commands.md R140). -/
def enableFields : List Field := [.inited, .initResult, .ue, .te, .re, .idleie, .eie, .irqAttached]

theorem enableFields_disjoint_writes {i : Instr} (s : State) (hi : i ≠ .init) :
    enableFields.Disjoint (writes s i) := by
  cases i <;> simp [enableFields, writes, drainFields, completeFields] at hi ⊢

theorem exec_keeps_enables {i : Instr} {s t : State} (hi : i ≠ .init) (h : exec i s = .next t) {f : Field}
    (hf : f ∈ enableFields) : f.same s t :=
  exec_frame h f (enableFields_disjoint_writes s hi hf)

theorem execInit_keeps_enablesInv {s t : State} (hi : EnablesInv s) (h : execInit s = .next t) : EnablesInv t := by
  obtain ⟨busyInited, on, off, initOk⟩ := hi
  have hinit := execInit_next.1 h
  rw [State.initDone_eq] at hinit
  obtain ⟨⟨hn, hq⟩, ⟨-, rfl⟩ | ⟨-, rfl⟩⟩ := hinit <;> constructor <;> simp_all

/-- What stands still before `INIT`, the enables aside. -/
def quietFields : List Field := [.rxEn, .txEn, .cbpend, .seq]

/-- Before `INIT` only the host commands and the clock can move (70_reset_and_hazards.md R341), and none of them but
`INIT` starts a channel or raises an event. -/
theorem exec_keeps_quiet {i : Instr} {s t : State} (hi : EnablesInv s) (hn : s.inited = false) (hinit : i ≠ .init)
    (h : exec i s = .next t) {f : Field} (hf : f ∈ quietFields) : f.same s t := by
  have hq : s.seq = .idle := by_contra fun hq => by simp [hi.busyInited hq] at hn
  obtain ⟨hue, hte, hre, hidleie, heie, hatt, hrx, htx, hcb⟩ := hi.off hn
  have hguard := enabled_of_exec_next h
  have hframe := exec_frame h f
  revert f
  cases i
  case bufwr | bufrd | tick => simp [writes, quietFields]
  all_goals simp_all [enabled]

/-- Only `INIT` changes the enables; until it has run, the machine is idle and quiet. -/
theorem exec_keeps_enablesInv {i : Instr} {s t : State} (hi : EnablesInv s) (h : exec i s = .next t) :
    EnablesInv t := by
  by_cases hinit : i = .init
  · subst hinit
    exact execInit_keeps_enablesInv hi h
  have hsame : ∀ f ∈ enableFields, f.same s t := fun _ => exec_keeps_enables hinit h
  simp only [enableFields, List.forall_mem_cons, Field.same] at hsame
  have hinitOk := hi.initOk
  cases hn : s.inited with
  | true =>
    have hon := hi.on hn
    constructor <;> simp_all
  | false =>
    have hq := hi.busyInited
    have hoff := hi.off hn
    have hquiet : ∀ f ∈ quietFields, f.same s t := fun _ => exec_keeps_quiet hi hn hinit h
    simp only [quietFields, List.forall_mem_cons, Field.same] at hquiet
    constructor <;> simp_all

/-! ### The latches -/

/-- What is latched lies in the progress fields. -/
theorem State.latchAt_of_same {s t : State} (h : ∀ f ∈ progressFields, f.same s t) (hs : s.latchAt s.seq) :
    t.latchAt t.seq := by
  simp only [progressFields, List.forall_mem_cons, Field.same] at h
  cases hq : s.seq <;> simp_all [State.latchAt, State.woken, State.decided, State.published]

/-- A decided outcome is published as it is (R175). -/
theorem State.publish_published (s : State) (hd : s.decided) : s.publish.published := by
  rcases hd with h | h | h <;> simp [State.publish, State.published, h]

theorem execXs13_published {s t : State} (h : execXs13 s = .next t) (hd : s.decided) : t.published := by
  have ho : s.emitSample.outcome = s.outcome := s.emitSample_frame .outcome (by simp)
  obtain ⟨-, rfl⟩ := execXs13_next.1 h
  exact s.emitSample.publish_published (by rwa [State.decided, ho])

/-- The return to the caller: the latches of a decided exchange become a valid result (R175). -/
theorem execXs13_keeps_latches {s t : State} (hs : s.latchAt s.seq) (h : execXs13 s = .next t) :
    t.latchAt t.seq := by
  have hc : t.crit = s.crit := execXs13_frame h .crit (by simp [writes])
  have hperf := execXs13_perfActive h
  have hpublished := execXs13_published h
  obtain ⟨hq, rfl⟩ := execXs13_next.1 h
  rw [hq] at hs
  obtain ⟨hcrit, -, hdecided, -⟩ := hs
  exact ⟨hc.trans hcrit, hperf, fun _ => hpublished hdecided⟩

/-- Each sequencer step leads from what is latched at its source to what is latched at its target; all else but
`EXCHANGE` keeps the latches. -/
theorem exec_keeps_latches {i : Instr} {s t : State} (hs : s.latchAt s.seq) (h : exec i s = .next t) :
    t.latchAt t.seq := by
  by_cases hout : i ≠ .exchange ∧ i.agent ≠ .sequencer
  · obtain ⟨hex, hag⟩ := hout
    exact State.latchAt_of_same (fun _ => exec_keeps_progress hex hag h) hs
  cases i
  case xs13 => exact execXs13_keeps_latches hs h
  case' exchange | xs1 | xs2 | xs3 | xs4 | xs5 | xs6 | xs8 | xs9 | xs10e | xs10t | xs10s | xs11 =>
    obtain ⟨hq, rfl⟩ := guarded_next.1 h
  case' xs7 => obtain ⟨hq, _, -, -, -, rfl⟩ := execXs7_next.1 h
  case' xs10p => obtain ⟨⟨hq, -⟩, ⟨-, rfl⟩ | ⟨-, rfl⟩⟩ := execXs10p_next.1 h
  case' xs12 => obtain ⟨hq, ⟨ho, ⟨-, rfl⟩ | ⟨-, rfl⟩⟩ | ⟨ho, rfl⟩⟩ := execXs12_next.1 h
  all_goals simp_all [State.latchAt, State.woken, State.decided, State.expired, State.sleepOver, Instr.agent]

theorem exec_keeps_lifecycleInv {i : Instr} {s t : State} (hi : LifecycleInv s) (h : exec i s = .next t) :
    LifecycleInv t := by
  rw [lifecycleInv_iff] at hi ⊢
  exact ⟨exec_keeps_enablesInv hi.1 h, exec_keeps_latches hi.2 h⟩

theorem LifecycleInv.with_trace {s : State} (hi : LifecycleInv s) (rest : List Byte) :
    LifecycleInv { s with trace := rest } :=
  { hi with }

/-- Settles O46: the enables and the latches are kept by every operation. The session invariant is not needed. -/
theorem lifecycleInvariantKept : Obligations.LifecycleInvariantKept := fun _ _ _ hi h =>
  step_keeps (fun _ rest hs => hs.with_trace rest) (fun _ _ _ => exec_keeps_lifecycleInv) hi h

end Sys2Proof.Machine
end

section
/-! SUPPORT and PROOF. Memory is changed by single writes and counters by single counts, so that the canonical form and
the width are kept (O48). -/

namespace Sys2Proof.Machine

/-- A frame without the counters keeps them all. -/
theorem Frame.cnt_eq {w : List Field} {s t : State} (h : Frame w s t) (hw : ∀ c : Counter, c.field ∉ w) :
    t.cnt = s.cnt :=
  (Counters.mk.injEq ..).mpr ⟨h _ (hw .txn), h _ (hw .retry), h _ (hw .timeout), h _ (hw .crc), h _ (hw .dmaerr),
    h _ (hw .proto), h _ (hw .uart), h _ (hw .idle), h _ (hw .badidle)⟩

/-- At most one event has been counted (R41). -/
def CountsAtMostOne (s t : State) : Prop := t.cnt = s.cnt ∨ ∃ c, t.cnt = s.cnt.count s.cfg.cntW c

/-- Every operation counts at most one event: the rules that count are `XS10P`, `XS10S`, `XS12`, `XS13` and
`UART_IRQ`; the frame of any other leaves the counters out. -/
theorem exec_counts {i : Instr} {s t : State} (h : exec i s = .next t) : CountsAtMostOne s t := by
  cases i
  case xs10p =>
    obtain ⟨-, ⟨-, rfl⟩ | ⟨-, rfl⟩⟩ := execXs10p_next.1 h
    · exact .inr ⟨.dmaerr, rfl⟩
    · exact .inl rfl
  case xs10s =>
    obtain ⟨-, rfl⟩ := execXs10s_next.1 h
    exact .inr ⟨.timeout, rfl⟩
  case xs12 =>
    obtain ⟨-, ⟨-, ⟨-, rfl⟩ | ⟨-, rfl⟩⟩ | ⟨-, rfl⟩⟩ := execXs12_next.1 h
    · exact .inl rfl
    · exact .inr ⟨.crc, rfl⟩
    · exact .inl rfl
  case xs13 =>
    obtain ⟨-, rfl⟩ := execXs13_next.1 h
    have hp : s.emitSample.publish.cnt = s.emitSample.cnt :=
      (State.publish_frame _).cnt_eq fun c => by cases c <;> simp [Counter.field]
    rcases s.emitSample_cases with ⟨-, he⟩ | ⟨-, he⟩
    · exact .inr ⟨.txn, hp.trans (by rw [he])⟩
    · exact .inl (hp.trans (by rw [he]))
  case uartIrq =>
    obtain ⟨-, ⟨-, rfl⟩ | ⟨-, ⟨-, rfl⟩ | ⟨-, ⟨-, rfl⟩ | ⟨-, _, -, ⟨-, rfl⟩ | ⟨-, rfl⟩⟩⟩⟩⟩ := execUartIrq_next.1 h
    · refine .inr ⟨.uart, ?_⟩
      rcases s.drainAndClear.lineError_cases with ⟨-, h⟩ | ⟨-, h⟩ <;> simp [h]
    · exact .inl (by simp)
    · exact .inr ⟨.badidle, by simp [State.malformed]⟩
    · exact .inr ⟨.badidle, by simp [State.malformed]⟩
    · exact .inr ⟨.idle, by simp [State.validShort]⟩
  all_goals
    exact .inl ((exec_frame h).cnt_eq fun c => by
      cases c <;> simp [Counter.field, writes, drainFields, completeFields])

/-- Counting is modulo the width (00_scope.md R12). -/
theorem bump_lt (w c : Nat) : bump w c < 2 ^ w := Nat.mod_lt _ (by positivity)

theorem CountersFit.of_counts {s t : State} (hfit : CountersFit s) (hcfg : t.cfg = s.cfg)
    (hc : CountsAtMostOne s t) : CountersFit t := by
  intro c
  rw [hcfg]
  obtain hc | ⟨d, hc⟩ := hc <;> rw [hc]
  · exact hfit c
  · rw [Counters.get_count]
    split
    · exact bump_lt _ _
    · exact hfit c

@[simp] theorem State.publish_mem (s : State) : s.publish.mem = s.mem := by
  unfold State.publish; split <;> rfl

@[simp] theorem State.emitSample_mem (s : State) : s.emitSample.mem = s.mem := by
  unfold State.emitSample; split <;> rfl

theorem execUartIrq_mem {s t : State} (h : execUartIrq s = .next t) : t.mem = s.mem := by
  obtain ⟨-, ⟨-, rfl⟩ | ⟨-, ⟨-, rfl⟩ | ⟨-, ⟨-, rfl⟩ | ⟨-, _, -, ⟨-, rfl⟩ | ⟨-, rfl⟩⟩⟩⟩⟩ := execUartIrq_next.1 h
  · rcases s.drainAndClear.lineError_cases with ⟨-, h⟩ | ⟨-, h⟩ <;> simp [h]
  all_goals simp [State.malformed, State.validShort]

/-- Memory changes by a single write, of `BUFWR` or `DMA_RX_XFER`, or not at all. -/
theorem exec_mem {i : Instr} {s t : State} (h : exec i s = .next t) :
    t.mem = s.mem ∨ ∃ a b, t.mem = Memory.write s.mem a b := by
  cases i
  case bufwr => obtain ⟨-, rfl⟩ := execBufwr_next.1 h; exact .inr ⟨_, _, rfl⟩
  case dmaRxXfer => obtain ⟨-, -, rfl⟩ := execDmaRxXfer_next.1 h; exact .inr ⟨_, _, State.rxAdvance_mem _⟩
  case diag => exact absurd h (execDiag_next (s := s))
  case uartIrq => exact .inl (execUartIrq_mem h)
  case dmaCb => obtain ⟨-, rfl⟩ := execDmaCb_next.1 h; exact .inl (State.complete_mem _ _)
  case xs2 | xs10t | xs13 => obtain ⟨-, rfl⟩ := guarded_next.1 h; exact .inl (by simp)
  case' init => obtain ⟨-, ⟨-, rfl⟩ | ⟨-, rfl⟩⟩ := execInit_next.1 h
  case' exchange | xs1 | xs3 | xs4 | xs5 | xs6 | xs8 | xs9 | xs10e | xs10s | xs11 | lineRx | lineIdle | lineTx |
      dmaFault =>
    obtain ⟨-, rfl⟩ := guarded_next.1 h
  case' xs7 => obtain ⟨-, _, -, -, -, rfl⟩ := execXs7_next.1 h
  case' xs10p => obtain ⟨-, ⟨-, rfl⟩ | ⟨-, rfl⟩⟩ := execXs10p_next.1 h
  case' xs12 => obtain ⟨-, ⟨-, ⟨-, rfl⟩ | ⟨-, rfl⟩⟩ | ⟨-, rfl⟩⟩ := execXs12_next.1 h
  case' bufrd => obtain ⟨-, _, -, rfl⟩ := execBufrd_next.1 h
  case' dmaTxXfer => obtain ⟨-, _, -, -, rfl⟩ := execDmaTxXfer_next.1 h
  case' tick => obtain rfl := execTick_next.1 h
  all_goals exact .inl rfl

theorem exec_keeps_memory_wf {i : Instr} {s t : State} (hs : Memory.wf s.mem = true) (h : exec i s = .next t) :
    Memory.wf t.mem = true := by
  obtain ht | ⟨a, b, ht⟩ := exec_mem h <;> rw [ht]
  · exact hs
  · exact Memory.wf_write s.mem a b hs

theorem exec_keeps_countersFit {i : Instr} {s t : State} (hs : CountersFit s) (h : exec i s = .next t) :
    CountersFit t :=
  hs.of_counts (exec_frame h .cfg (by cases i <;> simp [writes, drainFields, completeFields])) (exec_counts h)

/-- Settles O48: a write keeps the canonical form and a count the width. -/
theorem memoryFormAndCounterWidthKept : Obligations.MemoryFormAndCounterWidthKept := fun _ _ h =>
  ⟨fun hs => step_keeps (P := fun s => Memory.wf s.mem = true) (fun _ _ hs => hs)
      (fun _ _ _ => exec_keeps_memory_wf) hs h,
    fun hs => step_keeps (fun _ _ hs => hs) (fun _ _ _ => exec_keeps_countersFit) hs h⟩

end Sys2Proof.Machine
end

section
/-! SUPPORT and PROOF. The DMA records and the buffer: which operations write the receive record, the transmit record and
the buffer, and from these that every step keeps the DMA invariant (O47). -/

namespace Sys2Proof.Machine

/-- No operation writes the parameters. -/
theorem exec_cfg {i : Instr} {s t : State} (h : exec i s = .next t) : t.cfg = s.cfg :=
  exec_frame h .cfg (by cases i <;> simp [writes, drainFields, completeFields])

/-! ### The receive channel -/

/-- The receive channel has not been programmed since reset. -/
def State.rxUnprogrammed (s : State) : Prop :=
  s.rxdma.len = 0 ∧ s.rxdma.ndtr = 0 ∧ s.rxdma.en = false ∧ s.seq.code ≤ 4

/-- The receive channel is programmed over the whole buffer, and counts inside it
(43_status_interrupt_detectors.md R216). -/
def State.rxProgrammed (s : State) : Prop :=
  s.rxdma.len = s.cfg.cap ∧ s.rxdma.circ = true ∧ 1 ≤ s.rxdma.ndtr.toNat ∧ s.rxdma.ndtr.toNat ≤ s.cfg.cap.toNat

/-- What programs the receive channel: its length, its mode and its count. -/
def rxProgramFields : List Field := [.rxLen, .rxCirc, .rxNdtr]

/-- Only `XS4` programs the receive channel, and only a transfer moves its count. -/
theorem exec_keeps_rxProgram {i : Instr} {s t : State} (hprog : i ≠ .xs4) (hxfer : i ≠ .dmaRxXfer)
    (h : exec i s = .next t) : ∀ f ∈ rxProgramFields, f.same s t := by
  have hout : rxProgramFields.Disjoint (writes s i) := by
    cases i <;> simp [rxProgramFields, writes, drainFields, completeFields] at hprog hxfer ⊢
  exact fun f hf => exec_frame h f (hout hf)

/-- `Complete` starts no channel. -/
theorem State.rxEn_of_complete {s : State} {st : Status} (h : (s.complete st).rxdma.en = true) :
    s.rxdma.en = true := by
  by_cases hw : s.rxstatus = .waiting
  · simp [State.complete_waiting s st hw] at h
  · rwa [State.complete_of_not_waiting s st hw] at h

theorem execUartIrq_rxEn {s t : State} (h : execUartIrq s = .next t) (ht : t.rxdma.en = true) :
    s.rxdma.en = true := by
  obtain ⟨-, ⟨-, rfl⟩ | ⟨-, ⟨-, rfl⟩ | ⟨-, ⟨-, rfl⟩ | ⟨-, _, -, ⟨-, rfl⟩ | ⟨-, rfl⟩⟩⟩⟩⟩ := execUartIrq_next.1 h
  · rcases s.drainAndClear.lineError_cases with ⟨-, he⟩ | ⟨-, he⟩ <;> rw [he] at ht
    · simpa using State.rxEn_of_complete ht
    · simpa using ht
  · simpa using ht
  all_goals simpa using State.rxEn_of_complete ht

/-- Only `XS5` starts the receive channel. -/
theorem exec_rxEn {i : Instr} {s t : State} (hstart : i ≠ .xs5) (h : exec i s = .next t)
    (ht : t.rxdma.en = true) : s.rxdma.en = true := by
  have hsame := exec_frame h .rxEn
  cases i
  case xs5 => exact absurd rfl hstart
  case uartIrq => exact execUartIrq_rxEn h ht
  case dmaCb =>
    obtain ⟨-, rfl⟩ := execDmaCb_next.1 h
    exact State.rxEn_of_complete (s := { s with cbpend := none }) ht
  case xs10t => obtain ⟨-, rfl⟩ := execXs10t_next.1 h; simp at ht
  case dmaFault => exact (execDmaFault_next.1 h).1
  case dmaRxXfer =>
    have hreq := (execDmaRxXfer_next.1 h).1
    simp only [State.rxRequest, Bool.and_eq_true, and_assoc] at hreq
    exact hreq.1
  all_goals exact (hsame (by simp [writes, drainFields])).symm.trans ht

/-- Up to `S4` no operation but `XS4` leads further. -/
theorem exec_seq_code_le {i : Instr} {s t : State} (hprog : i ≠ .xs4) (hs : s.seq.code ≤ 4)
    (h : exec i s = .next t) : t.seq.code ≤ 4 := by
  have htable : ∀ e ∈ seqTable, e.op ≠ .xs4 → e.source.code ≤ 4 → e.target.code ≤ 4 := by decide
  obtain hedge | ⟨hseq, -⟩ := sequencerFollowsTheTable i s t h
  · exact htable _ hedge hprog hs
  · rwa [hseq]

/-- A channel that is not programmed stays so until `XS4`: it is stopped, so no transfer runs, and `XS5` comes later. -/
theorem exec_keeps_rxUnprogrammed {i : Instr} {s t : State} (hs : s.rxUnprogrammed) (hprog : i ≠ .xs4)
    (h : exec i s = .next t) : t.rxUnprogrammed := by
  obtain ⟨hlen, hndtr, hen, hseq⟩ := hs
  have hguard := enabled_of_exec_next h
  have hxfer : i ≠ .dmaRxXfer := by rintro rfl; simp [enabled, hen] at hguard
  have hstart : i ≠ .xs5 := by rintro rfl; simp_all [enabled, Seq.code]
  have hsame := exec_keeps_rxProgram hprog hxfer h
  simp only [rxProgramFields, List.forall_mem_cons, Field.same] at hsame
  obtain ⟨hl, -, hn, -⟩ := hsame
  have hoff : t.rxdma.en = false := by
    rw [← Bool.not_eq_true]
    exact fun ht => by simp [exec_rxEn hstart h ht] at hen
  exact ⟨hl.trans hlen, hn.trans hndtr, hoff, exec_seq_code_le hprog hseq h⟩

/-- A received byte steps the count down to 1, and at 1 back to the length (46_platform_agents.md R272). -/
theorem State.rxAdvance_rxProgrammed {s : State} (hs : s.rxProgrammed) : s.rxAdvance.rxProgrammed := by
  obtain ⟨hlen, hcirc, hlo, hhi⟩ := hs
  obtain ⟨hne, ha⟩ | ⟨-, _, -, ⟨-, ha⟩ | ⟨hnot, -⟩⟩ := s.rxAdvance_cases
  · rw [ha]
    exact ⟨hlen, hcirc, by dsimp only; bv_omega, by dsimp only; bv_omega⟩
  · rw [ha]
    exact ⟨hlen, hcirc, by dsimp only; rw [hlen]; omega, by dsimp only; rw [hlen]⟩
  · simp [hcirc] at hnot

/-- A programmed channel stays programmed: `XS4` programs it again, a transfer counts, and nothing else touches it. -/
theorem exec_keeps_rxProgrammed {i : Instr} {s t : State} (hs : s.rxProgrammed) (hprog : i ≠ .xs4)
    (h : exec i s = .next t) : t.rxProgrammed := by
  by_cases hxfer : i = .dmaRxXfer
  · subst hxfer
    obtain ⟨-, -, rfl⟩ := execDmaRxXfer_next.1 h
    exact State.rxAdvance_rxProgrammed hs
  have hsame := exec_keeps_rxProgram hprog hxfer h
  simp only [rxProgramFields, List.forall_mem_cons, Field.same] at hsame
  obtain ⟨hl, hc, hn, -⟩ := hsame
  simpa only [State.rxProgrammed, hl, hc, hn, exec_cfg h] using hs

theorem execXs4_rxProgrammed {s t : State} (hcap : 1 ≤ s.cfg.cap.toNat) (h : execXs4 s = .next t) :
    t.rxProgrammed := by
  obtain ⟨-, rfl⟩ := execXs4_next.1 h
  exact ⟨rfl, rfl, hcap, le_rfl⟩

/-- A running receive channel has its callback: `XS5` sets both, and nothing clears the callback. -/
theorem exec_keeps_callback {i : Instr} {s t : State} (hs : s.rxdma.en = true → s.rxdma.cb = true)
    (h : exec i s = .next t) : t.rxdma.en = true → t.rxdma.cb = true := by
  intro ht
  by_cases hstart : i = .xs5
  · subst hstart
    obtain ⟨-, rfl⟩ := execXs5_next.1 h
    rfl
  · have hcb : t.rxdma.cb = s.rxdma.cb :=
      exec_frame h .rxCb (by cases i <;> simp [writes, drainFields, completeFields] at hstart ⊢)
    exact hcb.trans (hs (exec_rxEn hstart h ht))

/-! ### The transmit channel -/

/-- The transmit count is at most the length, and that at most `CAP` (20_memory.md R71). -/
def State.txInside (s : State) : Prop :=
  s.txdma.ndtr.toNat ≤ s.txdma.len.toNat ∧ s.txdma.len.toNat ≤ s.cfg.cap.toNat

/-- `XS7` programs a length that it has tested, a transfer steps a positive count down. -/
theorem exec_keeps_txInside {i : Instr} {s t : State} (hs : s.txInside) (h : exec i s = .next t) : t.txInside := by
  have hframe := exec_frame h
  cases i
  case xs7 =>
    obtain ⟨-, len, -, -, hle, rfl⟩ := execXs7_next.1 h
    refine ⟨le_rfl, ?_⟩
    rw [BitVec.toNat_ofNat]
    exact (Nat.mod_le _ _).trans hle
  case dmaTxXfer =>
    have hguard := enabled_of_exec_next h
    obtain ⟨-, _, -, -, rfl⟩ := execDmaTxXfer_next.1 h
    obtain ⟨hcount, hlen⟩ := hs
    simp only [enabled, Bool.and_eq_true, decide_eq_true_eq] at hguard
    refine ⟨?_, hlen⟩
    simp only [State.txAdvance_txdma_ndtr, State.txAdvance_txdma_len]
    bv_omega
  all_goals
    have hn : t.txdma.ndtr = s.txdma.ndtr := hframe .txNdtr (by simp [writes, drainFields, completeFields])
    have hl : t.txdma.len = s.txdma.len := hframe .txLen (by simp [writes, drainFields, completeFields])
    simpa only [State.txInside, hn, hl, exec_cfg h] using hs

/-! ### The buffer -/

/-- Only indices below `n` hold a value. -/
def Memory.Inside (m : Memory) (n : Nat) : Prop := ∀ a b, Memory.read m a = some b → a < n

theorem Memory.Inside.write {m : Memory} {n c : Nat} (hm : m.Inside n) (hc : c < n) (v : Byte) :
    (Memory.write m c v).Inside n := by
  intro a b h
  rw [Memory.read_write] at h
  split at h
  · omega
  · exact hm a b h

/-- The two operations that write the buffer test the index (20_memory.md R70, R71). -/
theorem exec_keeps_inside {i : Instr} {s t : State} (hs : Memory.Inside s.mem s.cfg.cap.toNat)
    (h : exec i s = .next t) : Memory.Inside t.mem s.cfg.cap.toNat := by
  have hframe := exec_frame h
  cases i
  case bufwr a d =>
    obtain ⟨⟨-, ha⟩, rfl⟩ := execBufwr_next.1 h
    exact hs.write ha d
  case dmaRxXfer =>
    obtain ⟨-, hi, rfl⟩ := execDmaRxXfer_next.1 h
    rw [State.rxAdvance_mem]
    exact hs.write hi _
  all_goals
    intro a b hb
    have hread : Memory.read t.mem a = Memory.read s.mem a :=
      hframe (.buf a) (by simp [writes, drainFields, completeFields])
    exact hs a b (hread.symm.trans hb)

/-! ### The invariant -/

theorem Config.cap_pos_of_wf {c : Config} (h : c.wf = true) : 1 ≤ c.cap.toNat := by
  simp only [Config.wf, Bool.and_eq_true, decide_eq_true_eq] at h
  omega

theorem exec_keeps_receive {i : Instr} {s t : State} (hcap : 1 ≤ s.cfg.cap.toNat)
    (hs : s.rxUnprogrammed ∨ s.rxProgrammed) (h : exec i s = .next t) : t.rxUnprogrammed ∨ t.rxProgrammed := by
  by_cases hprog : i = .xs4
  · subst hprog
    exact .inr (execXs4_rxProgrammed hcap h)
  · exact hs.imp (exec_keeps_rxUnprogrammed · hprog h) (exec_keeps_rxProgrammed · hprog h)

theorem exec_keeps_dmaInv {i : Instr} {s t : State} (hi : DmaInv s) (h : exec i s = .next t) : DmaInv t where
  cfg := exec_cfg h ▸ hi.cfg
  receive := exec_keeps_receive (Config.cap_pos_of_wf hi.cfg) hi.receive h
  callback := exec_keeps_callback hi.callback h
  transmit := exec_keeps_txInside hi.transmit h
  inside := exec_cfg h ▸ exec_keeps_inside hi.inside h

theorem DmaInv.with_trace {s : State} (hi : DmaInv s) (rest : List Byte) : DmaInv { s with trace := rest } :=
  { hi with }

/-- Settles O47: the channels and the buffer are kept by every operation. -/
theorem dmaInvariantKept : Obligations.DmaInvariantKept := fun _ _ hi h =>
  step_keeps (fun _ rest hs => hs.with_trace rest) (fun _ _ _ => exec_keeps_dmaInv) hi h

end Sys2Proof.Machine
end

section
/-! SUPPORT and PROOF. Noninterference of the buffer's contents: the shared operations commute with a change of the
buffer, and so do the operations that do not read it (O60). -/

namespace Sys2Proof.Machine

/-- States that differ in the buffer alone are one state with two buffers. -/
theorem SameButBuf.eq_with_mem {s s' : State} (h : SameButBuf s s') : s' = { s with mem := s'.mem } :=
  (congrArg (fun u : State => { u with mem := s'.mem }) h).symm

theorem State.complete_with_mem (s : State) (st : Status) (m : Memory) :
    State.complete { s with mem := m } st = { s.complete st with mem := m } := by
  by_cases hw : s.rxstatus = .waiting
  · rw [State.complete_waiting s st hw, State.complete_waiting { s with mem := m } st hw]
    cases s.uart.overrunAtCompletion <;> rfl
  · rw [State.complete_of_not_waiting s st hw, State.complete_of_not_waiting { s with mem := m } st hw]

theorem State.rxAdvance_with_mem (s : State) (m : Memory) :
    State.rxAdvance { s with mem := m } = { s.rxAdvance with mem := m } := by
  unfold State.rxAdvance
  dsimp only
  split_ifs <;> rfl

theorem State.emitSample_with_mem (s : State) (m : Memory) :
    State.emitSample { s with mem := m } = { s.emitSample with mem := m } := by
  unfold State.emitSample
  dsimp only
  split <;> rfl

theorem State.publish_with_mem (s : State) (m : Memory) :
    State.publish { s with mem := m } = { s.publish with mem := m } := by
  cases h : s.outcome <;> simp [State.publish, h]

/-- The operations that read the buffer: the three whose control it steers (20_memory.md R85), and the two that move a
byte out of it. -/
def readsBuffer : Instr → Bool
  | .bufrd _ | .xs7 | .xs12 | .uartIrq | .dmaTxXfer => true
  | _ => false

theorem readsBuffer_eq_false {i : Instr} (hxs7 : i ≠ .xs7) (hirq : i ≠ .uartIrq) (hxs12 : i ≠ .xs12)
    (hbufrd : ∀ a, i ≠ .bufrd a) (htx : i ≠ .dmaTxXfer) : readsBuffer i = false := by
  cases i
  case bufrd a => exact absurd rfl (hbufrd a)
  case xs7 => exact absurd rfl hxs7
  case uartIrq => exact absurd rfl hirq
  case xs12 => exact absurd rfl hxs12
  case dmaTxXfer => exact absurd rfl htx
  all_goals rfl

theorem enabled_with_mem (s : State) (i : Instr) (m : Memory) : enabled { s with mem := m } i = enabled s i := by
  cases i <;> rfl

/-- An operation that does not read the buffer takes the same step whatever the buffer holds. -/
theorem exec_next_with_mem {i : Instr} {s t : State} (hi : readsBuffer i = false) (m : Memory)
    (h : exec i s = .next t) : ∃ m', exec i { s with mem := m } = .next { t with mem := m' } := by
  cases i
  case bufrd | xs7 | xs12 | uartIrq | dmaTxXfer => cases hi
  case diag => exact absurd h (execDiag_next (s := s))
  case init =>
    obtain ⟨hq, ⟨hch, rfl⟩ | ⟨hch, rfl⟩⟩ := execInit_next.1 h
    · exact ⟨m, execInit_next.2 ⟨hq, .inl ⟨hch, rfl⟩⟩⟩
    · exact ⟨m, execInit_next.2 ⟨hq, .inr ⟨hch, rfl⟩⟩⟩
  case bufwr a d =>
    obtain ⟨hq, rfl⟩ := execBufwr_next.1 h
    exact ⟨Memory.write m a.toNat d, execBufwr_next.2 ⟨hq, rfl⟩⟩
  case xs10p =>
    obtain ⟨hq, ⟨he, rfl⟩ | ⟨he, rfl⟩⟩ := execXs10p_next.1 h
    · exact ⟨m, execXs10p_next.2 ⟨hq, .inl ⟨he, rfl⟩⟩⟩
    · exact ⟨m, execXs10p_next.2 ⟨hq, .inr ⟨he, rfl⟩⟩⟩
  case xs13 =>
    obtain ⟨hq, rfl⟩ := execXs13_next.1 h
    exact ⟨m, execXs13_next.2 ⟨hq, by rw [State.emitSample_with_mem, State.publish_with_mem]⟩⟩
  case dmaCb =>
    obtain ⟨hq, rfl⟩ := execDmaCb_next.1 h
    exact ⟨m, execDmaCb_next.2 ⟨hq, State.complete_with_mem { s with cbpend := none } _ m⟩⟩
  case dmaRxXfer =>
    obtain ⟨hr, hx, rfl⟩ := execDmaRxXfer_next.1 h
    exact ⟨Memory.write m s.rxIndex s.uart.rdr, execDmaRxXfer_next.2 ⟨hr, hx,
      State.rxAdvance_with_mem { s with
        mem := Memory.write s.mem s.rxIndex s.uart.rdr, uart := { s.uart with rxne := false } } _⟩⟩
  case tick => obtain rfl := execTick_next.1 h; exact ⟨m, rfl⟩
  all_goals
    obtain ⟨hq, rfl⟩ := guarded_next.1 h
    exact ⟨m, guarded_next.2 ⟨hq, rfl⟩⟩

/-- A refusal is decided by the guard, which does not look at the buffer. -/
theorem exec_refused_with_mem {i : Instr} {s : State} {r : Refusal} (m : Memory) (h : exec i s = .refused r) :
    exec i { s with mem := m } = .refused r := by
  rw [exec_refused_iff] at h ⊢
  rwa [enabled_with_mem]

/-- Settles O60: one state with two buffers steps alike and is refused alike. -/
theorem bufferSteersNothingElse : Obligations.BufferSteersNothingElse := by
  intro i s s' hs hxs7 hirq hxs12 hbufrd htx
  rw [hs.eq_with_mem]
  refine ⟨fun t h => ?_, fun r => exec_refused_with_mem s'.mem⟩
  obtain ⟨m, ht⟩ := exec_next_with_mem (readsBuffer_eq_false hxs7 hirq hxs12 hbufrd htx) s'.mem h
  exact ⟨_, ht, rfl⟩

end Sys2Proof.Machine
end

section
/-! SUPPORT and PROOF. Operation words: the operand assembly of R112 inverted, what the decoder answers on a byte string
by the row of its first byte, the soundness of every row of R113's table, and from these the round trip (O1 to O4). -/

namespace Sys2Proof

/-! ### Operands (30_encoding.md R112) -/

theorem tickOperand_toNat (lo hi : Byte) : (tickOperand lo hi).toNat = lo.toNat + 256 * hi.toNat := by
  have := lo.isLt
  have := hi.isLt
  simp only [tickOperand, BitVec.toNat_add, BitVec.toNat_mul, BitVec.toNat_setWidth, BitVec.reduceToNat]
  omega

theorem tickOperand_lt (lo hi : Byte) : (tickOperand lo hi).toNat < 65536 := by
  rw [tickOperand_toNat]
  omega

theorem indexOperand_toNat (imm : Byte) : (indexOperand imm).toNat = imm.toNat := by
  simp only [indexOperand, BitVec.toNat_setWidth]
  omega

theorem indexOperand_lt (imm : Byte) : (indexOperand imm).toNat < 256 := indexOperand_toNat imm ▸ imm.isLt

/-- An index that fits a byte is read back from its low byte. -/
theorem indexOperand_setWidth {a : Half} (h : a.toNat < 256) : indexOperand (a.setWidth 8) = a := by
  apply BitVec.eq_of_toNat_eq
  rw [indexOperand_toNat, BitVec.toNat_setWidth]
  omega

@[simp] theorem setWidth_indexOperand (imm : Byte) : (indexOperand imm).setWidth 8 = imm := by
  apply BitVec.eq_of_toNat_eq
  rw [BitVec.toNat_setWidth, indexOperand_toNat]
  omega

/-- A count that fits two bytes is read back from them. -/
theorem tickOperand_bytes {d : Time} (h : d.toNat < 65536) :
    tickOperand (d.setWidth 8) ((d >>> 8).setWidth 8) = d := by
  apply BitVec.eq_of_toNat_eq
  simp only [tickOperand_toNat, BitVec.toNat_setWidth, BitVec.toNat_ushiftRight, Nat.shiftRight_eq_div_pow]
  omega

@[simp] theorem tickOperand_low (lo hi : Byte) : (tickOperand lo hi).setWidth 8 = lo := by
  apply BitVec.eq_of_toNat_eq
  rw [BitVec.toNat_setWidth, tickOperand_toNat]
  omega

@[simp] theorem tickOperand_high (lo hi : Byte) : ((tickOperand lo hi) >>> 8).setWidth 8 = hi := by
  apply BitVec.eq_of_toNat_eq
  rw [BitVec.toNat_setWidth, BitVec.toNat_ushiftRight, tickOperand_toNat, Nat.shiftRight_eq_div_pow]
  omega

/-! ### Decoding the word of an operation -/

theorem decode_bufwr (a d : Byte) (rest : List Byte) :
    decode (0x03 :: a :: d :: rest) = .word (.bufwr (indexOperand a) d) rest := rfl

theorem decode_bufrd (a : Byte) (rest : List Byte) :
    decode (0x04 :: a :: rest) = .word (.bufrd (indexOperand a)) rest := rfl

theorem decode_tick (lo hi : Byte) (rest : List Byte) :
    decode (0x59 :: lo :: hi :: rest) = .word (.tick (tickOperand lo hi)) rest := rfl

/-- R110 to R113: a word that is encoded is decoded, whatever follows it. -/
theorem decode_encode {i : Instr} (h : i.wellFormed = true) (rest : List Byte) :
    decode (encode i ++ rest) = .word i rest := by
  cases i
  case bufwr a d =>
    have ha : a.toNat < 256 := of_decide_eq_true h
    simp only [encode, List.cons_append, List.nil_append, decode_bufwr, indexOperand_setWidth ha]
  case bufrd a =>
    have ha : a.toNat < 256 := of_decide_eq_true h
    simp only [encode, List.cons_append, List.nil_append, decode_bufrd, indexOperand_setWidth ha]
  case tick d =>
    have hd : d.toNat < 65536 := of_decide_eq_true h
    simp only [encode, List.cons_append, List.nil_append, decode_tick, tickOperand_bytes hd]
  case dmaCb derr => cases derr <;> rfl
  case lineRx b ne fe => cases ne <;> cases fe <;> rfl
  all_goals rfl

/-- Settles O1, by `decode_encode`. -/
theorem decodeOfEncode : Obligations.DecodeOfEncode := fun _ rest h => decode_encode h rest

/-- The word of a well-formed operation is its encoding. -/
theorem hasWord_of_encode {i : Instr} {bs : List Byte} (hi : i.wellFormed = true) (h : encode i = bs) :
    Machine.HasWord i bs :=
  ⟨h, fun rest => h ▸ decode_encode hi rest⟩

/-- Settles O4: each example is a well-formed operation and the bytes it encodes to. -/
theorem workedEncodings : Obligations.WorkedEncodings :=
  ⟨hasWord_of_encode rfl rfl, hasWord_of_encode rfl rfl, hasWord_of_encode rfl rfl, hasWord_of_encode rfl rfl,
    hasWord_of_encode rfl rfl, hasWord_of_encode rfl rfl, hasWord_of_encode rfl rfl, rfl⟩

/-! ### What the decoder answers -/

/-- The operand bytes of a word of a format (R111). -/
def Format.operands : Format → Byte → Byte → List Byte
  | .f0, _, _ => []
  | .f1, a, _ => [a]
  | .f2, a, b => [a, b]

theorem Format.bytes_eq (f : Format) (a b : Byte) : f.bytes = (f.operands a b).length + 1 := by cases f <;> rfl

theorem rowOf_eq_some {opc : Byte} {r : OpRow} (h : rowOf opc = some r) :
    r ∈ opcodeTable ∧ opc &&& r.mask = r.pat :=
  ⟨List.mem_of_find?_eq_some h, by simpa using List.find?_some h⟩

/-- A word that is decoded is its first byte and the operand bytes of that byte's row, built by that row. -/
theorem decode_eq_word {opc : Byte} {tail : List Byte} {i : Instr} {rest : List Byte}
    (h : decode (opc :: tail) = .word i rest) :
    ∃ r a b, rowOf opc = some r ∧ i = r.build opc a b ∧ tail = r.format.operands a b ++ rest := by
  cases hr : rowOf opc with
  | none => simp [decode, hr] at h
  | some r =>
    simp only [decode, hr] at h
    split at h
    next hf =>
      cases h
      exact ⟨r, 0, 0, rfl, rfl, by rw [hf]; rfl⟩
    next a _ hf =>
      cases h
      exact ⟨r, a, 0, rfl, rfl, by rw [hf]; rfl⟩
    next a b _ hf =>
      cases h
      exact ⟨r, a, b, rfl, rfl, by rw [hf]; rfl⟩
    next => cases h

/-- R115: a byte string that begins with an illegal opcode has no first word. -/
theorem decode_illegal {opc : Byte} (h : wordLength opc = none) (tail : List Byte) :
    decode (opc :: tail) = .illegalOpcode opc := by
  have hr : rowOf opc = none := Option.map_eq_none_iff.1 h
  simp [decode, hr]

/-- R115: a byte string that ends inside its first word has no first word. -/
theorem decode_truncated {opc : Byte} {tail : List Byte} {n : Nat} (h : wordLength opc = some n)
    (hn : tail.length + 1 < n) : decode (opc :: tail) = .truncated opc := by
  obtain ⟨r, hr, rfl⟩ := Option.map_eq_some_iff.1 h
  simp only [decode, hr]
  split
  case h_4 => rfl
  all_goals
    next hf =>
      simp only [hf, Format.bytes, List.length_cons] at hn
      omega

/-! ### The rows of the opcode map (R113) -/

/-- What a row builds from a first byte it matches is a well-formed operation that encodes to that byte and the row's
operand bytes. -/
def OpRow.Sound (r : OpRow) : Prop :=
  ∀ opc a b : Byte, opc &&& r.mask = r.pat →
    encode (r.build opc a b) = opc :: r.format.operands a b ∧ (r.build opc a b).wellFormed = true

/-- A row of one opcode is sound when it is so at that opcode. -/
theorem OpRow.Sound.of_one_opcode {r : OpRow} (hmask : r.mask = 0xFF)
    (h : ∀ a b, encode (r.build r.pat a b) = r.pat :: r.format.operands a b ∧
      (r.build r.pat a b).wellFormed = true) : r.Sound := by
  intro opc a b hopc
  have hpat : opc = r.pat := by
    rw [← hopc, hmask]
    exact (BitVec.and_allOnes).symm
  exact hpat ▸ h a b

/-- The error bit of `DMA_CB` makes up the two opcodes of its row. -/
theorem dmaCb_opcode : ∀ opc : Byte, opc &&& 0xFE = 0x30 → 0x30 + (if opc.getLsbD 0 then 1 else 0) = opc := by
  decide

/-- The noise and framing bits of `LINE_RX` make up the four opcodes of its row. -/
theorem lineRx_opcode : ∀ opc : Byte, opc &&& 0xFC = 0x50 →
    0x50 + (if opc.getLsbD 0 then 1 else 0) + 2 * (if opc.getLsbD 1 then 1 else 0) = opc := by decide

theorem hostRows_sound : ∀ r ∈ hostRows, r.Sound := by
  simp only [hostRows, List.forall_mem_cons, List.not_mem_nil, false_implies, implies_true, and_true]
  exact ⟨.of_one_opcode rfl fun _ _ => ⟨rfl, rfl⟩, .of_one_opcode rfl fun _ _ => ⟨rfl, rfl⟩,
    .of_one_opcode rfl fun a d => ⟨by simp [encode, Format.operands], decide_eq_true (indexOperand_lt a)⟩,
    .of_one_opcode rfl fun a _ => ⟨by simp [encode, Format.operands], decide_eq_true (indexOperand_lt a)⟩,
    .of_one_opcode rfl fun _ _ => ⟨rfl, rfl⟩⟩

theorem sequencerRows_sound : ∀ r ∈ sequencerRows, r.Sound := by
  simp only [sequencerRows, List.forall_mem_cons, List.not_mem_nil, false_implies, implies_true, and_true]
  and_intros <;> exact .of_one_opcode rfl fun _ _ => ⟨rfl, rfl⟩

theorem eventRows_sound : ∀ r ∈ eventRows, r.Sound := by
  simp only [eventRows, List.forall_mem_cons, List.not_mem_nil, false_implies, implies_true, and_true]
  exact ⟨fun opc _ _ h => ⟨congrArg ([·]) (dmaCb_opcode opc h), rfl⟩,
    .of_one_opcode rfl fun _ _ => ⟨rfl, rfl⟩,
    fun opc b _ h => ⟨congrArg ([·, b]) (lineRx_opcode opc h), rfl⟩, .of_one_opcode rfl fun _ _ => ⟨rfl, rfl⟩,
    .of_one_opcode rfl fun _ _ => ⟨rfl, rfl⟩, .of_one_opcode rfl fun _ _ => ⟨rfl, rfl⟩,
    .of_one_opcode rfl fun _ _ => ⟨rfl, rfl⟩, .of_one_opcode rfl fun _ _ => ⟨rfl, rfl⟩,
    .of_one_opcode rfl fun lo hi => ⟨by simp [encode, Format.operands], decide_eq_true (tickOperand_lt lo hi)⟩⟩

theorem opcodeTable_sound {r : OpRow} (h : r ∈ opcodeTable) : r.Sound := by
  simp only [opcodeTable, List.mem_append] at h
  obtain (h | h) | h := h
  · exact hostRows_sound r h
  · exact sequencerRows_sound r h
  · exact eventRows_sound r h

/-- Settles O2: the row that built the operation is sound. -/
theorem decodedWordIsItsEncoding : Obligations.DecodedWordIsItsEncoding := by
  intro opc tail i rest h
  obtain ⟨r, a, b, hr, rfl, rfl⟩ := decode_eq_word h
  obtain ⟨hmem, hmatch⟩ := rowOf_eq_some hr
  obtain ⟨hword, hwf⟩ := opcodeTable_sound hmem opc a b hmatch
  refine ⟨by rw [hword, List.cons_append], hwf, ?_⟩
  rw [wordLength, hr, Option.map_some, hword, List.length_cons, r.format.bytes_eq a b]

/-! ### Lengths and illegal words (R115, R116) -/

theorem wordLength_eq_none_iff : ∀ opc : Byte, wordLength opc = none ↔
    opc.toNat = 0 ∨ (0x05 ≤ opc.toNat ∧ opc.toNat ≤ 0x0E) ∨ opc.toNat = 0x10 ∨
    (0x20 ≤ opc.toNat ∧ opc.toNat ≤ 0x2A) ∨ (0x2C ≤ opc.toNat ∧ opc.toNat ≤ 0x2F) ∨
    (0x33 ≤ opc.toNat ∧ opc.toNat ≤ 0x4F) ∨ 0x5A ≤ opc.toNat := by decide

theorem wordLength_of_legal : ∀ opc : Byte, wordLength opc ≠ none →
    wordLength opc = some (if opc = 0x03 ∨ opc = 0x59 then 3
      else if opc = 0x04 ∨ (0x50 ≤ opc.toNat ∧ opc.toNat ≤ 0x53) then 2 else 1) := by decide

/-- Settles O3: the lengths are read off the table byte by byte, the refusals follow from the decoder's answers. -/
theorem wordLengthsAndIllegalWords : Obligations.WordLengthsAndIllegalWords := by
  refine ⟨wordLength_eq_none_iff, wordLength_of_legal, fun s opc tail hs h => ?_, fun s opc tail n hs h hn => ?_⟩
  · rw [Machine.step, hs, decode_illegal h]
  · rw [Machine.step, hs, decode_truncated h hn]

end Sys2Proof
end

section
/-! SUPPORT and PROOF. The step and the trace (O5): no operation writes the trace, so a step leaves what stood behind
the word it ran. -/

namespace Sys2Proof.Machine

theorem exec_trace {i : Instr} {s t : State} (h : exec i s = .next t) : t.trace = s.trace :=
  exec_frame h .trace (by cases i <;> simp [writes, drainFields, completeFields])

theorem step_of_decode {s : State} {i : Instr} {rest : List Byte} (h : decode s.trace = .word i rest) :
    step s = exec i { s with trace := rest } := by
  rw [step, h]

/-- Settles O5, by `step_of_decode` and `exec_trace`. -/
theorem stepRunsDecodedWord : Obligations.StepRunsDecodedWord := by
  refine ⟨fun s i rest => step_of_decode, fun s t i rest hdec h => ?_, fun s h => step_next.2 (.inl ⟨h, rfl⟩)⟩
  exact exec_trace (step_of_decode hdec ▸ h)

end Sys2Proof.Machine
end

section
/-! SUPPORT and PROOF. The size accessor `FRAME_LEN` (O37): what it answers by what the two bytes of the size field
hold. -/

namespace Sys2Proof.Machine

/-- The buffer holds at least the smallest frame (00_scope.md R9). -/
theorem Config.lt_cap_of_wf {c : Config} {i : Nat} (h : c.wf = true) (hi : i < minFrame) : i < c.cap.toNat := by
  simp only [Config.wf, Bool.and_eq_true, decide_eq_true_eq] at h
  simp only [minFrame, hdrLen, crcLen] at hi
  omega

/-- R101: the reference accessor reads the two bytes, low byte first. -/
theorem State.frameLen_reference {s : State} {b0 b1 : Byte} (hsel : s.cfg.frameLen = .reference)
    (h0 : s.bufRead 0 = .ok b0) (h1 : s.bufRead 1 = .ok b1) : s.frameLen = .ok (b0.toNat + 256 * b1.toNat) := by
  simp only [State.frameLen, h0, h1, hsel, frameLenRef]

theorem State.frameLen_of_fault_zero {s : State} {f : Fault} (h0 : s.bufRead 0 = .error f) :
    s.frameLen = .error f := by
  simp only [State.frameLen, h0]

theorem State.frameLen_of_fault_one {s : State} {b0 : Byte} {f : Fault} (h0 : s.bufRead 0 = .ok b0)
    (h1 : s.bufRead 1 = .error f) : s.frameLen = .error f := by
  simp only [State.frameLen, h0, h1]

/-- Settles O37: the size field lies inside the buffer, so its bytes alone decide what the reads answer. -/
theorem frameLenReadsTheSizeField : Obligations.FrameLenReadsTheSizeField := by
  refine ⟨fun s b0 b1 hwf hsel h0 h1 => ?_, fun s hwf h0 => ?_, fun s b0 hwf h0 h1 => ?_⟩
  · exact State.frameLen_reference hsel (s.bufRead_ok 0 b0 (Config.lt_cap_of_wf hwf (by decide)) h0)
      (s.bufRead_ok 1 b1 (Config.lt_cap_of_wf hwf (by decide)) h1)
  · exact State.frameLen_of_fault_zero (s.bufRead_unwritten 0 (Config.lt_cap_of_wf hwf (by decide)) h0)
  · exact State.frameLen_of_fault_one (s.bufRead_ok 0 b0 (Config.lt_cap_of_wf hwf (by decide)) h0)
      (s.bufRead_unwritten 1 (Config.lt_cap_of_wf hwf (by decide)) h1)

end Sys2Proof.Machine
end

section
/-! SUPPORT and PROOF. The host commands (40_host_commands.md): what `INIT` leaves in the UART, what `BUFRD` does with a
byte that holds no value, and from these and the laws of every operation what each command does (O6 to O10). -/

namespace Sys2Proof.Machine

/-- An operation whose guard is false is refused under the name R318 gives. -/
theorem exec_refused_of_not_enabled {i : Instr} {s : State} (h : enabled s i = false) :
    exec i s = .refused (refusalOf i) :=
  exec_refused_iff.2 ⟨h, rfl⟩

/-! ### Initialisation -/

theorem State.initDone_flagsClear (s : State) : FlagsClear s.initDone := by
  rw [State.initDone_eq]
  exact ⟨rfl, rfl, rfl, rfl, rfl⟩

/-- With the receive flags clear, `SR` shows `TXE` alone (10_state.md R31). -/
theorem FlagsClear.sr_eq {s : State} (h : FlagsClear s) : s.uart.sr = regBit 7 s.uart.txe := by
  obtain ⟨hrxne, hore, hne, hfe, hidle⟩ := h
  simp [Uart.sr, regBit, hrxne, hore, hne, hfe, hidle]

theorem State.initDone_cr1 (s : State) : s.initDone.uart.cr1 = 0x201C := by
  simp [State.initDone_eq, Uart.cr1, regBit]

theorem State.initDone_cr3 (s : State) : s.initDone.uart.cr3 = 0x0001 := by
  simp [State.initDone_eq, Uart.cr3, regBit]

theorem State.initDone_sr {s : State} (h : s.uart.txe = true) : s.initDone.uart.sr = 0x80 := by
  have htxe : s.initDone.uart.txe = true := by rw [State.initDone_eq]; exact h
  rw [s.initDone_flagsClear.sr_eq, htxe]
  rfl

theorem exec_init_granted {s : State} (hinited : s.inited = false) (hseq : s.seq = .idle)
    (hrx : s.cfg.rxchAvail = true) (htx : s.cfg.txchAvail = true) : exec .init s = .next s.initDone :=
  execInit_next.2 ⟨⟨hinited, hseq⟩, .inl ⟨by simp [hrx, htx], rfl⟩⟩

theorem exec_init_not_granted {s : State} (hinited : s.inited = false) (hseq : s.seq = .idle)
    (h : ¬ (s.cfg.rxchAvail = true ∧ s.cfg.txchAvail = true)) :
    exec .init s = .next { s with initResult := .resourceExhausted } :=
  execInit_next.2 ⟨⟨hinited, hseq⟩, .inr ⟨by simpa using h, rfl⟩⟩

theorem State.initResult_frame (s : State) (r : InitResult) : Frame [.initResult] s { s with initResult := r } :=
  .of_mem_or_same fun f => by cases f <;> simp [Field.same]

/-- Settles O6: by whether both channels are granted, `INIT` leaves `State.initDone` or writes `INIT_RESULT` only. -/
theorem initConfiguresOrReports : Obligations.InitConfiguresOrReports := by
  refine ⟨hasWord_of_encode rfl rfl, fun s hinited hseq hrx htx => ?_, fun s hinited hseq h => ?_, fun s h => ?_⟩
  · have hexec := exec_init_granted hinited hseq hrx htx
    refine ⟨s.initDone, hexec, ?_, ?_, ?_, ?_, ?_, ?_, ?_, ?_, s.initDone_flagsClear, s.initDone_cr1, s.initDone_cr3,
      State.initDone_sr, ?_, ?_, ?_, ?_, ?_, exec_frame hexec⟩ <;> rw [State.initDone_eq]
  · exact ⟨_, exec_init_not_granted hinited hseq h, rfl, s.initResult_frame _⟩
  · exact exec_refused_of_not_enabled (by simpa [enabled, imp_iff_not_or] using h)

/-! ### The exchange -/

/-- Settles O7: the guard of `EXCHANGE` reads `INITED` and `SEQ`, and not the buffer. -/
theorem exchangeEntersSequence : Obligations.ExchangeEntersSequence := by
  refine ⟨hasWord_of_encode rfl rfl, fun s hinited hseq => ?_, fun s h => ?_⟩
  · have hexec := execExchange_next.2 ⟨⟨hinited, hseq⟩, rfl⟩
    exact ⟨_, hexec, rfl, rfl, rfl, exec_frame (i := .exchange) hexec⟩
  · exact exec_refused_of_not_enabled (by simpa [enabled, imp_iff_not_or] using h)

/-! ### The buffer -/

/-- Settles O8: the one write of the buffer is read back, and its frame is that byte. -/
theorem bufwrWritesOneByte : Obligations.BufwrWritesOneByte := by
  refine ⟨fun a d => ?_, fun s a d hseq ha => ?_, fun s a d h => ?_⟩
  · exact hasWord_of_encode (decide_eq_true (indexOperand_lt a)) (by simp [encode])
  · exact ⟨_, execBufwr_next.2 ⟨⟨hseq, ha⟩, rfl⟩, Memory.read_write_same .., s.memWrite_frame a.toNat d⟩
  · exact exec_refused_of_not_enabled (by simpa [enabled, imp_iff_not_or] using h)

/-- R73: `BUFRD` of a byte that nothing has written faults and names it. -/
theorem execBufrd_unwritten {s : State} {a : Half} (hseq : s.seq = .idle) (ha : a.toNat < s.cfg.cap.toNat)
    (h : Memory.read s.mem a.toNat = none) : execBufrd a s = .fault (.unwrittenBuffer a.toNat) := by
  rw [execBufrd, if_pos ⟨hseq, ha⟩, s.bufRead_unwritten _ ha h]
  rfl

/-- Settles O9: behind its guard `BUFRD` answers by what the byte holds. -/
theorem bufrdReturnsTheByte : Obligations.BufrdReturnsTheByte := by
  refine ⟨fun a => ?_, fun s a b hseq ha hb => ?_, fun s a hseq ha => ?_, fun s a h => ?_⟩
  · exact hasWord_of_encode (decide_eq_true (indexOperand_lt a)) (by simp [encode])
  · have hexec := execBufrd_next.2 ⟨⟨hseq, ha⟩, b, hb, rfl⟩
    exact ⟨_, hexec, rfl, exec_frame (i := .bufrd a) hexec⟩
  · exact execBufrd_unwritten hseq ha
  · exact exec_refused_of_not_enabled (by simpa [enabled, imp_iff_not_or] using h)

/-! ### The diagnostic word -/

/-- Settles O10: the guard of `DIAG` is false in every state. -/
theorem diagAlwaysRefused : Obligations.DiagAlwaysRefused :=
  ⟨hasWord_of_encode rfl rfl, fun _ => exec_refused_of_not_enabled rfl⟩

end Sys2Proof.Machine
end

section
/-! SUPPORT and PROOF. The channels over an exchange: a completion stops them, only `XS5` and `XS8` start them, and from
these that a return leaves them stopped when `XS8` found the session `Waiting` (O54). -/

namespace Sys2Proof.Machine

/-! ### Runs -/

theorem runOps_cons {s t : State} {i : Instr} (is : List Instr) (h : exec i s = .next t) :
    runOps s (i :: is) = runOps t is := by
  rw [runOps, h]

theorem runOps_cons_next {s u : State} {i : Instr} {is : List Instr} :
    runOps s (i :: is) = .next u ↔ ∃ t, exec i s = .next t ∧ runOps t is = .next u := by
  cases h : exec i s <;> simp [runOps, h]

/-- What every operation keeps under a restriction, every run that meets the restriction keeps. -/
theorem runOps_keeps {P : State → Prop} {ok : State → Instr → Prop}
    (hexec : ∀ i s t, P s → ok s i → exec i s = .next t → P t) {is : List Instr} {s t : State} (hs : P s)
    (hok : Along ok s is) (h : runOps s is = .next t) : P t := by
  induction is generalizing s with
  | nil => cases h; exact hs
  | cons i is ih =>
    obtain ⟨u, hu, ht⟩ := runOps_cons_next.1 h
    exact ih (hexec i s u hs hok.1 hu) (hok.2 u hu) ht

/-! ### What stops the channels -/

/-- The pieces of the state that say whether the channels are stopped. -/
def channelFields : List Field := [.dmar, .dmat, .rxEn, .txEn]

theorem Stopped.of_frame {w : List Field} {s t : State} (hs : Stopped s) (h : Frame w s t)
    (hw : channelFields.Disjoint w) : Stopped t :=
  have hsame {f : Field} (hf : f ∈ channelFields) : f.same s t := h f (hw hf)
  have ⟨hdmar, hdmat, hrxEn, htxEn⟩ := hs
  ⟨(hsame (f := .dmar) (by decide)).trans hdmar, (hsame (f := .dmat) (by decide)).trans hdmat,
    (hsame (f := .rxEn) (by decide)).trans hrxEn, (hsame (f := .txEn) (by decide)).trans htxEn⟩

theorem State.abort_stopped (s : State) : Stopped s.abort := by simp [Stopped]

/-- A handler leaves the channels alone or stops them, and stops them when it posts (R193): at its end `Complete` has
run, or nothing has touched the session. -/
def StopsOnPost (s t : State) : Prop := (Stopped s → Stopped t) ∧ (s.sig < t.sig → Stopped t)

theorem State.complete_stopsOnPost {s u : State} (st : Status) (hstop : Stopped s → Stopped u)
    (hsig : u.sig = s.sig) : StopsOnPost s (u.complete st) := by
  by_cases hw : u.rxstatus = .waiting
  · have hstopped : Stopped (u.complete st) := u.complete_stopped st hw
    exact ⟨fun _ => hstopped, fun _ => hstopped⟩
  · rw [u.complete_of_not_waiting st hw]
    exact ⟨hstop, fun h => by omega⟩

theorem execDmaCb_stopsOnPost {derr : Bool} {s t : State} (h : execDmaCb derr s = .next t) : StopsOnPost s t := by
  obtain ⟨-, rfl⟩ := execDmaCb_next.1 h
  exact State.complete_stopsOnPost (u := { s with cbpend := none }) _ id rfl

theorem execUartIrq_stopsOnPost {s t : State} (h : execUartIrq s = .next t) : StopsOnPost s t := by
  obtain ⟨-, ⟨-, rfl⟩ | ⟨-, ⟨-, rfl⟩ | ⟨-, ⟨-, rfl⟩ | ⟨-, _, -, ⟨-, rfl⟩ | ⟨-, rfl⟩⟩⟩⟩⟩ := execUartIrq_next.1 h
  · rcases s.drainAndClear.lineError_cases with ⟨-, h⟩ | ⟨-, h⟩ <;> rw [h]
    · exact State.complete_stopsOnPost _ (fun _ => State.abort_stopped _) (by simp)
    · exact ⟨by simp [Stopped], by simp⟩
  · exact ⟨by simp [Stopped], by simp⟩
  all_goals exact State.complete_stopsOnPost _ (by simp +contextual [Stopped]) (by simp)

/-- Whatever raises `SIG` has stopped the channels: only `Complete` posts, in a handler (R193, R197). -/
theorem exec_stopped_of_post {i : Instr} {s t : State} (h : exec i s = .next t) (hpost : s.sig < t.sig) :
    Stopped t := by
  have hframe := exec_frame h .sig
  cases i
  case dmaCb => exact (execDmaCb_stopsOnPost h).2 hpost
  case uartIrq => exact (execUartIrq_stopsOnPost h).2 hpost
  case init =>
    have hinit := execInit_next.1 h
    rw [State.initDone_eq] at hinit
    obtain ⟨-, ⟨-, rfl⟩ | ⟨-, rfl⟩⟩ := hinit <;> simp at hpost
  case xs10p =>
    obtain ⟨-, ⟨-, rfl⟩ | ⟨-, rfl⟩⟩ := execXs10p_next.1 h <;> dsimp only at hpost <;> omega
  all_goals exact absurd (hframe (by simp [writes, drainFields])) (Nat.ne_of_gt hpost)

/-- Stopped channels stay stopped, but for the two steps that start them (R164, R167): no transfer and no fault is
enabled on a stopped channel. -/
theorem exec_keeps_stopped {i : Instr} {s t : State} (hs : Stopped s) (hrx : i ≠ .xs5) (htx : i ≠ .xs8)
    (h : exec i s = .next t) : Stopped t := by
  have hguard := enabled_of_exec_next h
  have hframe := hs.of_frame (exec_frame h)
  cases i
  case xs5 => exact absurd rfl hrx
  case xs8 => exact absurd rfl htx
  case dmaCb => exact (execDmaCb_stopsOnPost h).1 hs
  case uartIrq => exact (execUartIrq_stopsOnPost h).1 hs
  case xs10t =>
    obtain ⟨-, rfl⟩ := execXs10t_next.1 h
    exact s.abort_stopped
  case init =>
    have hinit := execInit_next.1 h
    rw [State.initDone_eq] at hinit
    obtain ⟨-, ⟨-, rfl⟩ | ⟨-, rfl⟩⟩ := hinit
    · exact ⟨rfl, rfl, hs.2.2⟩
    · exact hs
  case dmaRxXfer | dmaTxXfer | dmaFault =>
    obtain ⟨-, -, hrxEn, htxEn⟩ := hs
    simp [enabled, hrxEn, htxEn] at hguard
  all_goals exact hframe (by simp [channelFields, writes, drainFields])

/-! ### The channels at each place of the sequence -/

/-- What holds of the channels at each value of `SEQ`, when `XS8` finds the session `Waiting`: after it they run only
while the session waits, and past the wait they are stopped. Before it nothing is said, for `XS8` settles it anew. -/
def State.channelsAt (s : State) : Seq → Prop
  | .s1 | .s2 | .s3 | .s4 | .s5 | .s6 | .s7 | .s8 => True
  | .s9 | .s10 | .wait => s.rxstatus = .waiting ∨ Stopped s
  | .idle | .sleep | .s11 | .s12 | .s13 => Stopped s

/-- Outside the sequencer and `INIT` a session goes on waiting, or its completion has stopped the channels. -/
theorem exec_keeps_waitingOrStopped {i : Instr} {s t : State} (hinit : i ≠ .init) (hag : i.agent ≠ .sequencer)
    (hs : s.rxstatus = .waiting ∨ Stopped s) (h : exec i s = .next t) : t.rxstatus = .waiting ∨ Stopped t := by
  obtain hw | hstop := hs
  · obtain ⟨hr, -⟩ | ⟨-, -, hsig⟩ := exec_accepted hinit hag h
    · exact .inl (hr.trans hw)
    · exact .inr (exec_stopped_of_post h (by omega))
  · exact .inr (exec_keeps_stopped hstop (by rintro rfl; exact hag rfl) (by rintro rfl; exact hag rfl) h)

/-- A post can be taken only of a completed session, whose channels are stopped (R46 (b), R170). -/
theorem execXs10p_stopped {s t : State} (hi : SessionInv s) (hs : s.rxstatus = .waiting ∨ Stopped s)
    (h : execXs10p s = .next t) : Stopped t := by
  have hpos := (execXs10p_next.1 h).1.2
  have hstop : Stopped s := hs.resolve_left fun hw => by
    have := hi.sig_eq_zero_of_waiting hw
    omega
  exact exec_keeps_stopped (i := .xs10p) hstop (by decide) (by decide) h

theorem State.channelsAt_of_stopped {s : State} (h : Stopped s) (q : Seq) : s.channelsAt q := by
  cases q <;> simp [State.channelsAt, h]

/-- `EXCHANGE` and each sequencer step lead from what holds of the channels at its source to what holds at its target;
of `XS8` this is the premise of R178. -/
theorem sequencer_keeps_channelsAt {i : Instr} {s t : State} (hag : i = .exchange ∨ i.agent = .sequencer)
    (hi : SessionInv s) (hs : s.channelsAt s.seq) (hxs8 : xs8FindsWaiting s i) (h : exec i s = .next t) :
    t.channelsAt t.seq := by
  have hguard := enabled_of_exec_next h
  cases i
  case exchange | xs1 | xs2 | xs3 | xs4 | xs5 | xs6 =>
    obtain ⟨-, rfl⟩ := guarded_next.1 h
    trivial
  case xs7 =>
    obtain ⟨-, _, -, -, -, rfl⟩ := execXs7_next.1 h
    trivial
  case xs8 =>
    obtain ⟨-, rfl⟩ := execXs8_next.1 h
    exact .inl (hxs8 rfl)
  case xs9 | xs10e =>
    obtain ⟨hq, rfl⟩ := guarded_next.1 h
    rw [hq] at hs
    exact hs
  case xs10p =>
    rw [(execXs10p_next.1 h).1.1] at hs
    exact State.channelsAt_of_stopped (execXs10p_stopped hi hs h) _
  case xs10t =>
    obtain ⟨-, rfl⟩ := execXs10t_next.1 h
    exact s.abort_stopped
  case xs10s =>
    rw [(execXs10s_next.1 h).1.1] at hs
    exact State.channelsAt_of_stopped (exec_keeps_stopped hs (by decide) (by decide) h) _
  case xs11 | xs12 | xs13 =>
    rw [of_decide_eq_true hguard] at hs
    exact State.channelsAt_of_stopped (exec_keeps_stopped hs (by decide) (by decide) h) _
  all_goals simp [Instr.agent] at hag

/-- Every operation keeps what holds of the channels, with `XS8` under the premise of R178. -/
theorem exec_keeps_channelsAt {i : Instr} {s t : State} (hi : SessionInv s) (hs : s.channelsAt s.seq)
    (hxs8 : xs8FindsWaiting s i) (h : exec i s = .next t) : t.channelsAt t.seq := by
  by_cases hseq : i = .exchange ∨ i.agent = .sequencer
  · exact sequencer_keeps_channelsAt hseq hi hs hxs8 h
  obtain ⟨hex, hag⟩ := not_or.1 hseq
  have hsame : t.seq = s.seq := exec_keeps_progress hex hag h (f := .seq) (by decide)
  have hguard := enabled_of_exec_next h
  rw [hsame]
  cases hq : s.seq <;> rw [hq] at hs
  case idle | sleep | s11 | s12 | s13 =>
    exact exec_keeps_stopped hs (by rintro rfl; exact hag rfl) (by rintro rfl; exact hag rfl) h
  case s9 | s10 | wait =>
    exact exec_keeps_waitingOrStopped (by rintro rfl; simp [enabled, hq] at hguard) hag hs h
  all_goals trivial

/-- Settles O54: the session invariant and `State.channelsAt` are kept along the run, and at `IDLE` they say it. -/
theorem returnLeavesChannelsStopped : Obligations.ReturnLeavesChannelsStopped := by
  intro is s t hi hidle hstop hok hrun hend
  have hs : SessionInv s ∧ s.channelsAt s.seq := ⟨hi, by rw [hidle]; exact hstop⟩
  obtain ⟨ht, hchannels⟩ := runOps_keeps (P := fun s => SessionInv s ∧ s.channelsAt s.seq)
    (fun _ _ _ h hxs8 hexec => ⟨exec_keeps_sessionInv h.1 hexec, exec_keeps_channelsAt h.1 h.2 hxs8 hexec⟩) hs hok hrun
  rw [hend] at hchannels
  obtain ⟨hinactive, hsig, hcrit, -⟩ := ht.rules.c hend
  exact ⟨hinactive, hsig, hcrit, hchannels⟩

end Sys2Proof.Machine
end

section
/-! SUPPORT and PROOF. Progress: at each place of the sequence one operation is next, a step that is enabled stays
enabled until a post changes which one that is, and in a fair execution every place is left, until `IDLE` (O56). -/

namespace Sys2Proof.Machine

/-! ### The operation that is next -/

/-- The operation that leads on from a state: `EXCHANGE` when idle, and in `WAIT` the step that `SIG` selects
(10_state.md R22). -/
def State.nextStep (s : State) : Instr :=
  match s.seq with
  | .idle => .exchange
  | .s1 => .xs1
  | .s2 => .xs2
  | .s3 => .xs3
  | .s4 => .xs4
  | .s5 => .xs5
  | .s6 => .xs6
  | .s7 => .xs7
  | .s8 => .xs8
  | .s9 => .xs9
  | .s10 => .xs10e
  | .wait => if s.sig = 0 then .xs10t else .xs10p
  | .sleep => .xs10s
  | .s11 => .xs11
  | .s12 => .xs12
  | .s13 => .xs13

/-- No other operation that moves `SEQ` is enabled. -/
theorem eq_nextStep_of_enabled {i : Instr} {s : State} (hi : i = .exchange ∨ i.agent = .sequencer)
    (h : enabled s i = true) : i = s.nextStep := by
  cases i
  case xs10p =>
    simp only [enabled, Bool.and_eq_true, decide_eq_true_eq] at h
    simp [State.nextStep, h.1, Nat.ne_of_gt h.2]
  all_goals simp_all [enabled, State.nextStep, Instr.agent]

theorem State.nextStep_agent {s : State} (hq : s.seq ≠ .idle) : s.nextStep.agent = .sequencer := by
  cases h : s.seq
  case idle => exact absurd h hq
  case wait => by_cases hsig : s.sig = 0 <;> simp [State.nextStep, h, hsig, Instr.agent]
  all_goals simp [State.nextStep, h, Instr.agent]

theorem State.nextStep_congr {s t : State} (hseq : t.seq = s.seq) (hsig : t.sig = 0 ↔ s.sig = 0) :
    t.nextStep = s.nextStep := by
  simp only [State.nextStep, hseq, hsig]

/-- During an exchange the next step waits for nothing but the two times. -/
theorem State.nextStep_enabled {s : State} (hq : s.seq ≠ .idle) (hdeadline : s.deadline ≤ s.now)
    (hsleep : s.sleepUntil ≤ s.now) : enabled s s.nextStep = true := by
  cases h : s.seq
  case idle => exact absurd h hq
  case wait => by_cases hsig : s.sig = 0 <;> simp [State.nextStep, enabled, h, hsig, hdeadline, Nat.pos_of_ne_zero]
  all_goals simp [State.nextStep, enabled, h, hsleep]

/-! ### What the other agents may do -/

/-- `NOW` does not fall in a step that does not wrap the clock (10_state.md R42). -/
theorem exec_now_le {i : Instr} {s t : State} (h : exec i s = .next t)
    (hwrap : ∀ d, i = .tick d → s.now.toNat + d.toNat < 2 ^ 64) : s.now.toNat ≤ t.now.toNat := by
  have hframe := exec_frame h .now
  cases i
  case tick d =>
    cases execTick_next.1 h
    have := hwrap d rfl
    bv_omega
  all_goals exact le_of_eq (congrArg BitVec.toNat (hframe (by simp [writes, drainFields, completeFields]))).symm

/-- Outside the sequencer, during an exchange, `SIG` is only raised (R177). -/
theorem exec_sig_le {i : Instr} {s t : State} (hq : s.seq ≠ .idle) (hag : i.agent ≠ .sequencer)
    (h : exec i s = .next t) : s.sig ≤ t.sig := by
  have hinit : i ≠ .init := by
    rintro rfl
    exact hq (execInit_next.1 h).1.2
  obtain ⟨-, hsig⟩ | ⟨-, -, hsig⟩ := exec_accepted hinit hag h <;> omega

/-- Outside the sequencer, during an exchange, `SEQ` and the two times stand (R177). -/
theorem exec_keeps_stage {i : Instr} {s t : State} (hq : s.seq ≠ .idle) (hag : i.agent ≠ .sequencer)
    (h : exec i s = .next t) : t.seq = s.seq ∧ t.deadline = s.deadline ∧ t.sleepUntil = s.sleepUntil := by
  have hex : i ≠ .exchange := by
    rintro rfl
    exact hq (execExchange_next.1 h).1.2
  have hframe := exec_frame h
  refine ⟨exec_keeps_progress hex hag h (f := .seq) (by decide), hframe .deadline ?_, hframe .sleepUntil ?_⟩ <;>
    cases i <;> simp [writes, drainFields, completeFields, Instr.agent] at hag ⊢

/-! ### Persistence -/

theorem seq_ne_idle_of_enabled {i : Instr} {s : State} (hi : i.agent = .sequencer) (h : enabled s i = true) :
    s.seq ≠ .idle := by
  intro hq
  rw [eq_nextStep_of_enabled (.inr hi) h, State.nextStep, hq] at hi
  cases hi

/-- Other agents leave a sequencer step enabled, but that a post turns the timeout off and the posted wake on (R177). -/
theorem enabled_persists {i j : Instr} {s t : State} (hi : i.agent = .sequencer) (h : enabled s i = true)
    (hag : j.agent ≠ .sequencer) (hexec : exec j s = .next t)
    (hwrap : ∀ d, j = .tick d → s.now.toNat + d.toNat < 2 ^ 64) :
    enabled t i = true ∨ i = .xs10t ∧ enabled t .xs10p = true := by
  have hnonidle := seq_ne_idle_of_enabled hi h
  obtain ⟨hseq, hdeadline, hsleep⟩ := exec_keeps_stage hnonidle hag hexec
  have hsig := exec_sig_le hnonidle hag hexec
  have hnow := exec_now_le hexec hwrap
  have hreach {v : Time} (hv : v ≤ s.now) : v ≤ t.now := by bv_omega
  cases i
  case xs10t =>
    simp only [enabled, Bool.and_eq_true, decide_eq_true_eq] at h
    obtain ⟨⟨hq, -⟩, hd⟩ := h
    obtain hz | hpos := Nat.eq_zero_or_pos t.sig
    · exact .inl (by simp [enabled, hseq, hq, hz, hdeadline, hreach hd])
    · exact .inr ⟨rfl, by simp [enabled, hseq, hq, hpos]⟩
  case xs10p =>
    simp only [enabled, Bool.and_eq_true, decide_eq_true_eq] at h
    exact .inl (by simp [enabled, hseq, h.1, Nat.lt_of_lt_of_le h.2 hsig])
  case xs10s =>
    simp only [enabled, Bool.and_eq_true, decide_eq_true_eq] at h
    exact .inl (by simp [enabled, hseq, h.1, hsleep, hreach h.2])
  case xs1 | xs2 | xs3 | xs4 | xs5 | xs6 | xs7 | xs8 | xs9 | xs10e | xs11 | xs12 | xs13 =>
    exact .inl (by simpa only [enabled, hseq] using h)
  all_goals cases hi

/-! ### Fair executions -/

section
variable {σ : Nat → State} {op : Nat → Instr}

theorem now_mono (hexec : Execution σ op) (hwrap : ClockNeverWraps σ op) {n m : Nat} (hm : n ≤ m) :
    (σ n).now.toNat ≤ (σ m).now.toNat :=
  monotone_nat_of_le_succ (f := fun k => (σ k).now.toNat) (fun k => exec_now_le (hexec k) (hwrap k)) hm

/-- The clock passes any two times after any point. -/
theorem exists_now_ge (hexec : Execution σ op) (htick : TickFair σ) (hwrap : ClockNeverWraps σ op) (n : Nat)
    (v w : Time) : ∃ k, n ≤ k ∧ ∀ m, k ≤ m → v ≤ (σ m).now ∧ w ≤ (σ m).now := by
  obtain ⟨a, ha⟩ := htick v
  obtain ⟨b, hb⟩ := htick w
  refine ⟨max n (max a b), le_max_left _ _, fun m hm => ?_⟩
  have hma := now_mono hexec hwrap (show a ≤ m by omega)
  have hmb := now_mono hexec hwrap (show b ≤ m by omega)
  constructor <;> bv_omega

/-- While `SEQ` stands, no sequencer step runs. -/
theorem agent_ne_sequencer_of_stays (hexec : Execution σ op) {n : Nat} (hstay : (σ (n + 1)).seq = (σ n).seq) :
    (op n).agent ≠ .sequencer := by
  intro hag
  have htable : ∀ e ∈ seqTable, e.target ≠ e.source := by decide
  exact htable _ (exec_seqTable (.inr hag) (hexec n)) hstay

/-- From some point on the next step is one and the same, if `SEQ` stands: `SIG` is only raised. -/
theorem exists_nextStep_stable (hexec : Execution σ op) {n : Nat} (hq : (σ n).seq ≠ .idle)
    (hstay : ∀ m, n ≤ m → (σ m).seq = (σ n).seq) :
    ∃ k, n ≤ k ∧ ∀ m, k ≤ m → (σ m).nextStep = (σ k).nextStep := by
  have hsig (m : Nat) (hm : n ≤ m) : (σ m).sig ≤ (σ (m + 1)).sig :=
    exec_sig_le (hstay m hm ▸ hq)
      (agent_ne_sequencer_of_stays hexec ((hstay _ (by omega)).trans (hstay m hm).symm)) (hexec m)
  by_cases hposted : ∃ k, n ≤ k ∧ 0 < (σ k).sig
  · obtain ⟨k, hk, hpos⟩ := hposted
    refine ⟨k, hk, fun m hm => State.nextStep_congr ((hstay m (by omega)).trans (hstay k hk).symm) ?_⟩
    have hle : (σ k).sig ≤ (σ m).sig :=
      Nat.le_induction le_rfl (fun l hl ih => ih.trans (hsig l (by omega))) m hm
    omega
  · have hzero (m : Nat) (hm : n ≤ m) : (σ m).sig = 0 := Nat.eq_zero_of_not_pos fun hpos => hposted ⟨m, hm, hpos⟩
    exact ⟨n, le_rfl, fun m hm => State.nextStep_congr (hstay m hm) (by simp [hzero m hm, hzero n le_rfl])⟩

/-- Every place of an exchange is left: were it not, the two times would stand and the clock pass them, so that the next
step would stay enabled and, by fairness, run. -/
theorem exists_stage_left (hexec : Execution σ op) (hfair : SequencerFair σ op) (htick : TickFair σ)
    (hwrap : ClockNeverWraps σ op) {n : Nat} (hq : (σ n).seq ≠ .idle) : ∃ m, n ≤ m ∧ (σ m).seq ≠ (σ n).seq := by
  by_contra! hstay
  have hother (m : Nat) (hm : n ≤ m) : (op m).agent ≠ .sequencer :=
    agent_ne_sequencer_of_stays hexec ((hstay _ (by omega)).trans (hstay m hm).symm)
  have htimes (m : Nat) (hm : n ≤ m) :
      (σ m).deadline = (σ n).deadline ∧ (σ m).sleepUntil = (σ n).sleepUntil := by
    induction m, hm using Nat.le_induction with
    | base => exact ⟨rfl, rfl⟩
    | succ m hm ih =>
      obtain ⟨-, hd, hs⟩ := exec_keeps_stage (hstay m hm ▸ hq) (hother m hm) (hexec m)
      exact ⟨hd.trans ih.1, hs.trans ih.2⟩
  obtain ⟨k, hk, hnext⟩ := exists_nextStep_stable hexec hq hstay
  obtain ⟨l, hl, hnow⟩ := exists_now_ge hexec htick hwrap k (σ n).deadline (σ n).sleepUntil
  have hnonidle (m : Nat) (hm : n ≤ m) : (σ m).seq ≠ .idle := hstay m hm ▸ hq
  have henabled (m : Nat) (hm : l ≤ m) : enabled (σ m) (σ k).nextStep = true := by
    obtain ⟨hd, hs⟩ := htimes m (by omega)
    rw [← hnext m (by omega)]
    exact State.nextStep_enabled (hnonidle m (by omega)) (hd ▸ (hnow m hm).1) (hs ▸ (hnow m hm).2)
  have hagent := State.nextStep_agent (hnonidle k hk)
  obtain ⟨m, hm, hrun⟩ := hfair _ l hagent henabled
  exact hother m (by omega) (hrun ▸ hagent)

/-- `SEQ` moves to a later place or back to `IDLE` (10_state.md R22). -/
theorem exec_seq_advances {i : Instr} {s t : State} (h : exec i s = .next t) (hmoved : t.seq ≠ s.seq) :
    t.seq = .idle ∨ s.seq.code < t.seq.code := by
  have htable : ∀ e ∈ seqTable, e.target = .idle ∨ e.source.code < e.target.code := by decide
  obtain hedge | ⟨hsame, -⟩ := sequencerFollowsTheTable i s t h
  · exact htable _ hedge
  · exact absurd hsame hmoved

/-- An exchange comes to `IDLE` or to a later place. -/
theorem exists_later_stage (hexec : Execution σ op) (hfair : SequencerFair σ op) (htick : TickFair σ)
    (hwrap : ClockNeverWraps σ op) {n : Nat} (hq : (σ n).seq ≠ .idle) :
    ∃ m, n ≤ m ∧ ((σ m).seq = .idle ∨ (σ n).seq.code < (σ m).seq.code) := by
  have hleft : ∃ d, (σ (n + d)).seq ≠ (σ n).seq := by
    obtain ⟨m, hm, hne⟩ := exists_stage_left hexec hfair htick hwrap hq
    exact ⟨m - n, by rwa [Nat.add_sub_cancel' hm]⟩
  obtain ⟨d, hd⟩ : ∃ d, Nat.find hleft = d + 1 :=
    Nat.exists_eq_succ_of_ne_zero fun h0 => Nat.find_spec hleft (by rw [h0, Nat.add_zero])
  have hmoved : (σ (n + d + 1)).seq ≠ (σ n).seq := by simpa [hd, Nat.add_assoc] using Nat.find_spec hleft
  have hbefore : (σ (n + d)).seq = (σ n).seq := not_not.1 (Nat.find_min hleft (by omega))
  exact ⟨n + d + 1, by omega, hbefore ▸ exec_seq_advances (hexec (n + d)) (hbefore ▸ hmoved)⟩

/-- Every exchange ends: the places of the sequence are finitely many. -/
theorem exists_idle (hexec : Execution σ op) (hfair : SequencerFair σ op) (htick : TickFair σ)
    (hwrap : ClockNeverWraps σ op) (n : Nat) : ∃ m, n ≤ m ∧ (σ m).seq = .idle := by
  induction hd : 15 - (σ n).seq.code using Nat.strong_induction_on generalizing n with
  | _ d ih =>
    by_cases hq : (σ n).seq = .idle
    · exact ⟨n, le_rfl, hq⟩
    obtain ⟨m, hm, hidle | hlater⟩ := exists_later_stage hexec hfair htick hwrap hq
    · exact ⟨m, hm, hidle⟩
    have hle : (σ m).seq.code ≤ 15 := by cases (σ m).seq <;> decide
    obtain ⟨k, hk, hidle⟩ := ih _ (by omega) m rfl
    exact ⟨k, hm.trans hk, hidle⟩

end

/-- Settles O56: persistence and what the other agents may do, operation by operation; progress by `exists_idle`. -/
theorem enabledSequencerStepPersists : Obligations.EnabledSequencerStepPersists := by
  refine ⟨fun i j s t hi hen hne h hwrap => ?_, fun j s t hq hag h hwrap => ?_,
    fun _ _ hexec hfair htick hwrap => exists_idle hexec hfair htick hwrap⟩
  · have hag : j.agent ≠ .sequencer := fun hj => hne <|
      (eq_nextStep_of_enabled (.inr hj) (enabled_of_exec_next h)).trans (eq_nextStep_of_enabled (.inr hi) hen).symm
    exact enabled_persists hi hen hag h hwrap
  · exact ⟨(exec_keeps_stage hq hag h).1, exec_now_le h hwrap, exec_sig_le hq hag h⟩

end Sys2Proof.Machine
end

section
/-! SUPPORT and PROOF. The sequencer's steps one by one (41_exchange_sequencer.md R160 to R175): what each leaves behind
its guard, from the inversion lemma and the frame of every operation; where the guard is false, the refusal of every
operation (O11 to O23). -/

namespace Sys2Proof.Machine

/-- A piece of the state that has not changed need not be listed. -/
theorem Frame.drop {v w : List Field} {s t : State} {f : Field} (h : Frame w s t) (hf : f.same s t)
    (hw : w ⊆ f :: v) : Frame v s t := by
  intro g hg
  by_cases hgf : g = f
  · rwa [hgf]
  · exact h g fun hgw => (List.mem_cons.1 (hw hgw)).elim hgf hg

/-! ### Setup: `XS1` to `XS9` -/

/-- Settles O11, step by step. -/
theorem openingSteps : Obligations.OpeningSteps := by
  refine ⟨hasWord_of_encode rfl rfl, fun s hq => ?_, fun s hq => ?_, hasWord_of_encode rfl rfl, fun s hq => ?_,
    fun s hq => ?_, hasWord_of_encode rfl rfl, fun s hq => ?_, fun s hq => ?_⟩
  · have hexec := execXs1_next.2 ⟨hq, rfl⟩
    exact ⟨_, hexec, rfl, rfl, rfl, exec_frame (i := .xs1) hexec⟩
  · exact exec_refused_of_not_enabled (decide_eq_false hq)
  · have hexec := execXs2_next.2 ⟨hq, rfl⟩
    exact ⟨_, hexec, by simp [FlagsClear], rfl, (exec_frame (i := .xs2) hexec).mono (by simp [writes, drainFields])⟩
  · exact exec_refused_of_not_enabled (decide_eq_false hq)
  · have hexec := execXs3_next.2 ⟨hq, rfl⟩
    exact ⟨_, hexec, rfl, rfl, exec_frame (i := .xs3) hexec⟩
  · exact exec_refused_of_not_enabled (decide_eq_false hq)

/-- Settles O12: one update of the state behind the guard. -/
theorem xs4ProgramsReceive : Obligations.Xs4ProgramsReceive := by
  refine ⟨hasWord_of_encode rfl rfl, fun s hq => ?_, fun s hq => exec_refused_of_not_enabled (decide_eq_false hq)⟩
  have hexec := execXs4_next.2 ⟨hq, rfl⟩
  exact ⟨_, hexec, rfl, rfl, rfl, rfl, rfl, exec_frame (i := .xs4) hexec⟩

/-- Settles O13: the channel runs and is requested, so that a pending byte is all that a transfer still needs. -/
theorem xs5StartsReceive : Obligations.Xs5StartsReceive := by
  refine ⟨hasWord_of_encode rfl rfl, fun s hq => ?_, fun s hq => exec_refused_of_not_enabled (decide_eq_false hq)⟩
  have hexec := execXs5_next.2 ⟨hq, rfl⟩
  exact ⟨_, hexec, rfl, rfl, rfl, rfl, fun hrxne => by simp [enabled, hrxne], exec_frame (i := .xs5) hexec⟩

/-- Settles O14: both cache points are the identity. -/
theorem xs6FlushChangesNothingElse : Obligations.Xs6FlushChangesNothingElse := by
  refine ⟨hasWord_of_encode rfl rfl, fun s hq => ?_, fun s hq => exec_refused_of_not_enabled (decide_eq_false hq),
    fun s => ⟨s.flushCache_eq, s.invalidateCache_eq⟩⟩
  have hexec := execXs6_next.2 ⟨hq, rfl⟩
  exact ⟨_, hexec, rfl, exec_frame (i := .xs6) hexec⟩

/-- A length within `CAP` fits the 16 bits of `TXLEN` and of the channel's counts. -/
theorem State.toNat_ofNat_of_le_cap {s : State} {len : Nat} (h : len ≤ s.cfg.cap.toNat) :
    (BitVec.ofNat 16 len).toNat = len := by
  rw [BitVec.toNat_ofNat, Nat.mod_eq_of_lt (lt_of_le_of_lt h s.cfg.cap.isLt)]

/-- Behind its guard `XS7` faults when the size accessor does, or on a length out of range (R166). -/
theorem execXs7_fault {s : State} {f : Fault} (hq : s.seq = .s7)
    (h : s.frameLen = .error f ∨
      ∃ len, s.frameLen = .ok len ∧ (len < 1 ∨ s.cfg.cap.toNat < len) ∧ f = .txLenOutOfRange len) :
    execXs7 s = .fault f := by
  rw [execXs7, if_pos hq, orFault_fault]
  obtain hf | ⟨len, hlen, hrange, rfl⟩ := h
  · exact .inl hf
  · exact .inr ⟨len, hlen, if_pos hrange⟩

/-- Settles O15: behind the guard the size accessor decides. -/
theorem xs7ProgramsTransmit : Obligations.Xs7ProgramsTransmit := by
  refine ⟨hasWord_of_encode rfl rfl, fun s len hq hlen hlo hhi => ?_,
    fun s len hq hlen hrange => execXs7_fault hq (.inr ⟨len, hlen, hrange, rfl⟩),
    fun s i hq hf => execXs7_fault hq (.inl hf), fun s hq => exec_refused_of_not_enabled (decide_eq_false hq)⟩
  have hexec := execXs7_next.2 ⟨hq, len, hlen, hlo, hhi, rfl⟩
  have hfits := State.toNat_ofNat_of_le_cap hhi
  exact ⟨_, hexec, hfits, hfits, hfits, by simp [State.txIndex], rfl, exec_frame (i := .xs7) hexec⟩

/-- Settles O16: the guard of `XS8` reads `SEQ` and not `RXSTATUS`. -/
theorem xs8StartsTransmit : Obligations.Xs8StartsTransmit := by
  refine ⟨hasWord_of_encode rfl rfl, fun s hq => ?_, fun s hq => exec_refused_of_not_enabled (decide_eq_false hq)⟩
  have hexec := execXs8_next.2 ⟨hq, rfl⟩
  exact ⟨_, hexec, rfl, rfl, rfl, exec_frame (i := .xs8) hexec⟩

/-- Under the clock premise the deadline does not wrap (10_state.md R42). -/
theorem ClockPremise.deadline_toNat {s : State} (h : ClockPremise s) :
    (s.now + timeoutTicks).toNat = s.now.toNat + 10000 := by
  have hlt : s.now.toNat + 10000 + s.cfg.sleepTicks.toNat < 2 ^ 64 := h
  rw [BitVec.toNat_add, show timeoutTicks.toNat = 10000 from rfl]
  omega

/-- Settles O17, the exact deadline by `ClockPremise.deadline_toNat`. -/
theorem xs9ArmsTheDeadline : Obligations.Xs9ArmsTheDeadline := by
  refine ⟨hasWord_of_encode rfl rfl, fun s hq => ?_, fun s hq => exec_refused_of_not_enabled (decide_eq_false hq)⟩
  have hexec := execXs9_next.2 ⟨hq, rfl⟩
  exact ⟨_, hexec, rfl, ClockPremise.deadline_toNat, rfl, exec_frame (i := .xs9) hexec⟩

/-! ### The wait: `XS10E` to `XS11` -/

/-- Settles O18: neither handler's guard reads `CRIT` or `SEQ`. -/
theorem criticalSectionSteps : Obligations.CriticalSectionSteps := by
  refine ⟨hasWord_of_encode rfl rfl, fun s hq => ?_, fun s hq => exec_refused_of_not_enabled (decide_eq_false hq),
    hasWord_of_encode rfl rfl, fun s hq => ?_, fun s hq => exec_refused_of_not_enabled (decide_eq_false hq)⟩
  · have hexec := execXs10e_next.2 ⟨hq, rfl⟩
    exact ⟨_, hexec, rfl, rfl, exec_frame (i := .xs10e) hexec, rfl, fun _ => rfl⟩
  · have hexec := execXs11_next.2 ⟨hq, rfl⟩
    exact ⟨_, hexec, rfl, rfl, rfl, exec_frame (i := .xs11) hexec⟩

/-- Settles O19: by whether the session was completed with an error; the guards of `XS10P` and `XS10T` part at `SIG`. -/
theorem xs10pTakesThePost : Obligations.Xs10pTakesThePost := by
  refine ⟨hasWord_of_encode rfl rfl, fun s hq hpos hr => ?_, fun s hq hpos hr => ?_, fun s h => ?_, fun s hpos => ?_⟩
  · have hexec := execXs10p_next.2 ⟨⟨hq, hpos⟩, .inl ⟨hr, rfl⟩⟩
    exact ⟨_, hexec, rfl, rfl, rfl, rfl, exec_frame (i := .xs10p) hexec⟩
  · have hexec := execXs10p_next.2 ⟨⟨hq, hpos⟩, .inr ⟨hr, rfl⟩⟩
    exact ⟨_, hexec, rfl, rfl, rfl, (exec_frame (i := .xs10p) hexec).drop (f := .cntDmaerr) rfl (by simp [writes])⟩
  · exact exec_refused_of_not_enabled (by simpa [enabled, imp_iff_not_or] using h)
  · exact exec_refused_of_not_enabled (by simp [enabled, Nat.ne_of_gt hpos])

/-- Settles O20: one state holds the abort, the reset of `RXSTATUS` and the sleep. -/
theorem xs10tAbortsAtTheDeadline : Obligations.Xs10tAbortsAtTheDeadline := by
  refine ⟨hasWord_of_encode rfl rfl, fun s hq hsig hreached => ?_, fun s h => ?_⟩
  · have hexec := execXs10t_next.2 ⟨⟨hq, hsig, BitVec.le_def.2 hreached⟩, rfl⟩
    exact ⟨_, hexec, s.abort_stopped, by simp [FlagsClear], rfl, rfl, rfl, s.abort_sig.trans hsig,
      (exec_frame (i := .xs10t) hexec).mono (by simp [writes, drainFields])⟩
  · exact exec_refused_of_not_enabled (i := .xs10t)
      (by simpa [enabled, BitVec.lt_def, Nat.pos_iff_ne_zero, imp_iff_not_or, or_assoc] using h)

/-- Settles O21: one update of the state behind the guard. -/
theorem xs10sEndsTheSleep : Obligations.Xs10sEndsTheSleep := by
  refine ⟨hasWord_of_encode rfl rfl, fun s hq hreached => ?_, fun s h => ?_⟩
  · have hexec := execXs10s_next.2 ⟨⟨hq, BitVec.le_def.2 hreached⟩, rfl⟩
    exact ⟨_, hexec, rfl, rfl, rfl, rfl, exec_frame (i := .xs10s) hexec⟩
  · exact exec_refused_of_not_enabled (i := .xs10s) (by simpa [enabled, BitVec.lt_def, imp_iff_not_or] using h)

/-! ### The reply and the return: `XS12`, `XS13` -/

/-- On a non-error wake `XS12` faults when the check does (R174). -/
theorem execXs12_fault {s : State} {f : Fault} (hq : s.seq = .s12) (ho : s.outcome = .pending)
    (hf : s.crcCheck = .error f) : execXs12 s = .fault f := by
  rw [execXs12, if_pos hq, if_pos ho, orFault_fault]
  exact .inl hf

/-- Settles O22: by the latch, and on a non-error wake by what the check answers. -/
theorem xs12JudgesTheReply : Obligations.Xs12JudgesTheReply := by
  refine ⟨hasWord_of_encode rfl rfl, fun s hq ho hgood => ?_, fun s hq ho hbad => ?_,
    fun s f hq ho hf => execXs12_fault hq ho hf, fun s hq ho => ?_,
    fun s hq => exec_refused_of_not_enabled (decide_eq_false hq)⟩
  · have hexec := execXs12_next.2 ⟨hq, .inl ⟨ho, .inl ⟨hgood, rfl⟩⟩⟩
    exact ⟨_, hexec, rfl, rfl, (exec_frame (i := .xs12) hexec).drop (f := .cntCrc) rfl (by simp [writes])⟩
  · have hexec := execXs12_next.2 ⟨hq, .inl ⟨ho, .inr ⟨hbad, rfl⟩⟩⟩
    exact ⟨_, hexec, rfl, rfl, rfl, exec_frame (i := .xs12) hexec⟩
  · have hexec := execXs12_next.2 ⟨hq, .inr ⟨ho, rfl⟩⟩
    have hframe : Frame [.cntCrc, .seq] s { s with seq := .s13 } :=
      (exec_frame (i := .xs12) hexec).drop (f := .outcome) rfl (by simp [writes])
    exact ⟨_, hexec, rfl, hframe.drop (f := .cntCrc) rfl (by simp)⟩

/-- The sample that `XS13` leaves is the one it has emitted: publishing does not touch it. -/
theorem execXs13_emits {s t : State} (h : execXs13 s = .next t) :
    t.durLast = s.emitSample.durLast ∧ t.cnt.txn = s.emitSample.cnt.txn := by
  have hframe := s.emitSample.publish_frame
  obtain ⟨-, rfl⟩ := execXs13_next.1 h
  exact ⟨hframe .durLast (by simp), hframe .cntTxn (by simp)⟩

/-- `XS13` records an open sample (R175). -/
theorem execXs13_sample {s t : State} (h : execXs13 s = .next t) (hopen : s.perfActive = true) :
    t.durLast = s.now - s.perfT0 ∧ t.cnt.txn = (s.cnt.txn + 1) % 2 ^ s.cfg.cntW := by
  simpa [State.emitSample, hopen, Counters.count, bump] using execXs13_emits h

/-- `XS13` records nothing when no sample is open (R175). -/
theorem execXs13_no_sample {s t : State} (h : execXs13 s = .next t) (hclosed : s.perfActive = false) :
    t.durLast = s.durLast ∧ t.cnt.txn = s.cnt.txn := by
  simpa [State.emitSample, hclosed] using execXs13_emits h

/-- No free value is drawn for a decided outcome (assumption log 9). -/
theorem State.publish_free {s : State} (hnone : s.outcome ≠ .none) (hpending : s.outcome ≠ .pending) :
    s.publish.free = s.free := by
  cases h : s.outcome
  case none => exact absurd h hnone
  case pending => exact absurd h hpending
  all_goals simp [State.publish, h]

theorem execXs13_free {s t : State} (h : execXs13 s = .next t) (hnone : s.outcome ≠ .none)
    (hpending : s.outcome ≠ .pending) : t.free = s.free := by
  have ho : s.emitSample.outcome = s.outcome := s.emitSample_frame .outcome (by simp)
  have hfree : s.emitSample.free = s.free := s.emitSample_frame .free (by simp)
  obtain ⟨-, rfl⟩ := execXs13_next.1 h
  exact (State.publish_free (ho ▸ hnone) (ho ▸ hpending)).trans hfree

/-- `XS13` publishes a decided outcome as the result of the same name (R175). -/
theorem execXs13_result {s t : State} (h : execXs13 s = .next t) :
    (s.outcome = .success → t.result = .success) ∧ (s.outcome = .timeout → t.result = .timeout) ∧
    (s.outcome = .protocolError → t.result = .protocolError) := by
  have ho : t.outcome = s.outcome := execXs13_frame h .outcome (by simp [writes])
  have hpublished := execXs13_published h
  refine ⟨fun hs => ?_, fun hs => ?_, fun hs => ?_⟩ <;>
    simpa [State.decided, State.published, ho, hs] using hpublished

/-- Settles O23: the sample, the result and the free value by their own lemmas. -/
theorem xs13Returns : Obligations.Xs13Returns := by
  refine ⟨hasWord_of_encode rfl rfl, fun s hq => ?_, fun s hq => exec_refused_of_not_enabled (decide_eq_false hq)⟩
  have hexec := execXs13_next.2 ⟨hq, rfl⟩
  obtain ⟨hsuccess, htimeout, hprotocol⟩ := execXs13_result hexec
  exact ⟨_, hexec, rfl, rfl, execXs13_perfActive hexec, hsuccess, htimeout, hprotocol, execXs13_sample hexec,
    execXs13_no_sample hexec, execXs13_free hexec, execXs13_frame hexec⟩

end Sys2Proof.Machine
end

section
/-! SUPPORT and PROOF. The unanswered wait (41_exchange_sequencer.md R171 to R175): from the wait to the end of the
sleep, from there to the return, each composed of what its steps do, and the two together (O57). -/

namespace Sys2Proof.Machine

/-- `TICK` advances the clock and writes nothing else (45_timeout_timer.md R254). -/
theorem exists_exec_tick (s : State) (d : Time) :
    ∃ t, exec (.tick d) s = .next t ∧ t.now = s.now + d ∧ Frame [.now] s t :=
  have hexec : exec (.tick d) s = .next { s with now := s.now + d } := rfl
  ⟨_, hexec, rfl, exec_frame hexec⟩

/-- The deadline is reached and the wait aborted; the sleep passes and the timeout is counted (R171, R172). -/
theorem unanswered_wait_times_out {s : State} {d : Time} (hq : s.seq = .wait) (hsig : s.sig = 0)
    (hwrap : s.now.toNat + d.toNat + s.cfg.sleepTicks.toNat < 2 ^ 64)
    (hreach : s.deadline.toNat ≤ s.now.toNat + d.toNat) :
    ∃ t, (∀ is, runOps s (.tick d :: .xs10t :: .tick s.cfg.sleepTicks :: .xs10s :: is) = runOps t is) ∧
      t.seq = .s11 ∧ t.outcome = .timeout ∧ t.perfActive = false ∧ Stopped t ∧ t.sig = 0 ∧
      t.cnt.timeout = (s.cnt.timeout + 1) % 2 ^ s.cfg.cntW ∧
      t.now.toNat = s.now.toNat + d.toNat + s.cfg.sleepTicks.toNat ∧
      t.cnt.txn = s.cnt.txn ∧ t.durLast = s.durLast ∧ ∀ a, Memory.read t.mem a = Memory.read s.mem a := by
  obtain ⟨-, hxs10t, -⟩ := xs10tAbortsAtTheDeadline
  obtain ⟨-, hxs10s, -⟩ := xs10sEndsTheSleep
  obtain ⟨a, harun, hanow, haframe⟩ := exists_exec_tick s d
  have hat : a.now.toNat = s.now.toNat + d.toNat := by
    rw [hanow, BitVec.toNat_add]
    omega
  have hadeadline : a.deadline = s.deadline := haframe .deadline (by simp)
  obtain ⟨b, hbrun, hbstop, -, -, hsleep, hbq, hbsig, hbframe⟩ :=
    hxs10t a ((haframe .seq (by simp)).trans hq) ((haframe .sig (by simp)).trans hsig) (by rwa [hat, hadeadline])
  have hb := haframe.comp hbframe
  have hbcfg : b.cfg = s.cfg := hb .cfg (by simp)
  have hacfg : a.cfg = s.cfg := haframe .cfg (by simp)
  have hbnow : b.now = a.now := hbframe .now (by simp)
  obtain ⟨c, hcrun, hcnow, hcframe⟩ := exists_exec_tick b s.cfg.sleepTicks
  have hcsleep : c.sleepUntil = c.now :=
    (hcframe .sleepUntil (by simp)).trans (by rw [hsleep, hcnow, hbnow, hacfg])
  have hc := hb.comp hcframe
  have hccnt : c.cnt.timeout = s.cnt.timeout := hc .cntTimeout (by simp)
  have hccfg : c.cfg = s.cfg := hc .cfg (by simp)
  obtain ⟨t, htrun, hcount, hperf, ho, htq, htframe⟩ :=
    hxs10s c ((hcframe .seq (by simp)).trans hbq) (by rw [hcsleep])
  have hct := hcframe.comp htframe
  have hst := hc.comp htframe
  have htnow : t.now = c.now := htframe .now (by simp)
  refine ⟨t, fun is => ?_, htq, ho, hperf, hbstop.of_frame hct (by simp [channelFields]),
    (hct .sig (by simp)).trans hbsig, by rw [hcount, hccnt, hccfg], ?_,
    hst .cntTxn (by simp), hst .durLast (by simp), fun i => hst (.buf i) (by simp)⟩
  · rw [runOps_cons _ harun, runOps_cons _ hbrun, runOps_cons _ hcrun, runOps_cons _ htrun]
  · rw [htnow, hcnow, BitVec.toNat_add, hbnow, hat]
    omega

/-- After a timeout the critical section is left, the reply is not judged, no sample is open, and the result is
published (R173 to R175). -/
theorem timed_out_returns {s : State} (hq : s.seq = .s11) (ho : s.outcome = .timeout) (hperf : s.perfActive = false) :
    ∃ t, runOps s [.xs11, .xs12, .xs13] = .next t ∧ t.seq = .idle ∧ t.result = .timeout ∧ t.resultValid = true ∧
      t.rxstatus = .inactive ∧ t.crit = false ∧
      Frame [.crit, .rxstatus, .perfActive, .result, .resultValid, .free, .seq] s t := by
  obtain ⟨-, -, -, -, hxs11, -⟩ := criticalSectionSteps
  obtain ⟨-, -, -, -, hxs12, -⟩ := xs12JudgesTheReply
  obtain ⟨-, hxs13, -⟩ := xs13Returns
  obtain ⟨t, htrun, htcrit, htr, htq, htframe⟩ := hxs11 s hq
  have hto : t.outcome = .timeout := (htframe .outcome (by simp)).trans ho
  obtain ⟨u, hurun, huq, huframe⟩ := hxs12 t htq (by simp [hto])
  have huo : u.outcome = .timeout := (huframe .outcome (by simp)).trans hto
  have hclosed : u.perfActive = false :=
    (huframe .perfActive (by simp)).trans ((htframe .perfActive (by simp)).trans hperf)
  obtain ⟨v, hvrun, hvalid, hvq, -, -, hresult, -, -, hnone, -, hvframe⟩ := hxs13 u huq
  obtain ⟨hdur, htxn⟩ := hnone hclosed
  have hquiet : Frame [.cntTxn, .perfActive, .result, .resultValid, .seq, .free] u v :=
    hvframe.drop (f := .durLast) hdur (by simp)
  have hreturn : Frame [.perfActive, .result, .resultValid, .seq, .free] u v :=
    hquiet.drop (f := .cntTxn) htxn (by simp)
  have huv := huframe.comp hreturn
  refine ⟨v, ?_, hvq, hresult huo, hvalid, (huv .rxstatus (by simp)).trans htr, (huv .crit (by simp)).trans htcrit,
    (htframe.comp huv).mono (by decide)⟩
  rw [runOps_cons _ htrun, runOps_cons _ hurun, runOps_cons _ hvrun, runOps]

/-- Settles O57: the wait times out, and the timeout returns. -/
theorem unansweredWaitReturnsTimeout : Obligations.UnansweredWaitReturnsTimeout := by
  intro s d _ _ hq hsig hwrap hreach
  obtain ⟨t, htrun, htq, ho, hperf, hstop, htsig, htcount, htnow, httxn, htdur, htmem⟩ :=
    unanswered_wait_times_out hq hsig hwrap hreach
  obtain ⟨u, hurun, huq, hresult, hvalid, hr, hcrit, hframe⟩ := timed_out_returns htq ho hperf
  have hunow : u.now = t.now := hframe .now (by simp)
  exact ⟨u, (htrun _).trans hurun, huq, hresult, hvalid, hstop.of_frame hframe (by simp [channelFields]), hr,
    (hframe .sig (by simp)).trans htsig, hcrit, (hframe .cntTimeout (by simp)).trans htcount,
    (hframe .cntTxn (by simp)).trans httxn, (hframe .durLast (by simp)).trans htdur, hunow ▸ htnow,
    fun i => (hframe (.buf i) (by simp)).trans (htmem i)⟩

end Sys2Proof.Machine
end

section
/-! SUPPORT and PROOF. The completion arbiter (42_completion_arbiter.md): the drain, the stops and the abort (O24),
`Complete` by whether an overrun or a pending byte is found (O25), `DMA_CB` (O26), and that nothing but a handler posts
(O53). -/

namespace Sys2Proof.Machine

/-! ### The drain, the stops and the abort -/

theorem State.drainAndClear_flagsClear (s : State) : FlagsClear s.drainAndClear := by simp [FlagsClear]

theorem State.abort_flagsClear (s : State) : FlagsClear s.abort := State.drainAndClear_flagsClear _

/-- Settles O24: each subroutine by what it clears and its frame; a stop writes a constant. -/
theorem drainStopAndAbort : Obligations.DrainStopAndAbort :=
  ⟨fun s => ⟨s.drainAndClear_flagsClear, s.drainAndClear_frame⟩,
    fun s => ⟨s.stopRx_rxdma_en, s.stopRx_frame, rfl⟩, fun s => ⟨s.stopTx_txdma_en, s.stopTx_frame, rfl⟩,
    fun s => ⟨s.abort_stopped, s.abort_flagsClear, s.abort_frame⟩⟩

/-! ### `Complete` -/

@[simp] theorem Uart.overrunAtCompletion_eq_true {u : Uart} :
    u.overrunAtCompletion = true ↔ u.ore = true ∨ u.rxne = true := by simp [Uart.overrunAtCompletion]

/-- A session ends in error on an overrun, on a pending byte, or when the status given says so (R193). -/
theorem State.adopted_eq (s : State) (st : Status) : s.adopted st =
    if st = .err ∨ s.uart.ore = true ∨ s.uart.rxne = true then .completedError else .completedOk := by
  simp [State.adopted, or_comm]

/-- The pieces of the state at the end of a frame that have not changed need not be listed. -/
theorem Frame.of_append {v w : List Field} {s t : State} (h : Frame (v ++ w) s t) (hw : ∀ f ∈ w, f.same s t) :
    Frame v s t := by
  intro f hv
  by_cases hf : f ∈ w
  · exact hw f hf
  · exact h f fun hvw => (List.mem_append.1 hvw).elim hv hf

/-- An overrun or a pending byte is drained with all five flags (R193). -/
theorem State.complete_flagsClear {s : State} (st : Status) (hw : s.rxstatus = .waiting)
    (h : s.uart.ore = true ∨ s.uart.rxne = true) : FlagsClear (s.complete st) := by
  simp [FlagsClear, State.complete_waiting s st hw, h]

/-- With neither an overrun nor a pending byte the flags stay as they are (R193). -/
theorem State.complete_frame_of_no_overrun {s : State} (st : Status) (hore : s.uart.ore = false)
    (hrxne : s.uart.rxne = false) : Frame completeFields s (s.complete st) := by
  by_cases hw : s.rxstatus = .waiting
  · refine (s.complete_frame st).of_append ?_
    simp [drainFields, Field.same, State.complete_waiting s st hw, hore, hrxne]
  · rw [s.complete_of_not_waiting st hw]
    exact .refl _ s

/-- Settles O25: the flags decide the status and whether they are drained. -/
theorem completeActsOnceAndOverrunWins : Obligations.CompleteActsOnceAndOverrunWins := by
  refine ⟨State.complete_of_not_waiting, fun s st hw => ⟨s.complete_stopped st hw, s.complete_sig st hw⟩,
    fun s st hw hover => ⟨?_, State.complete_flagsClear st hw hover, s.complete_frame st⟩,
    fun s st hw hore hrxne => ⟨?_, ?_, State.complete_frame_of_no_overrun st hore hrxne⟩⟩
  all_goals rw [s.complete_rxstatus st hw, s.adopted_eq]
  · exact if_pos (.inr hover)
  · rintro rfl
    simp [hore, hrxne]
  · exact fun herr => if_pos (.inl herr)

/-! ### `DMA_CB` -/

theorem Status.ofDerr_eq_err {derr : Bool} : Status.ofDerr derr = .err ↔ derr = true := by
  cases derr <;> simp [Status.ofDerr]

theorem State.cbpend_frame (s : State) (e : Option Bool) : Frame [.cbpend] s { s with cbpend := e } :=
  .of_mem_or_same fun f => by cases f <;> simp [Field.same]

/-- Settles O26: the event is consumed, and the session is then completed as in O25. -/
theorem dmaCbCompletes : Obligations.DmaCbCompletes := by
  refine ⟨⟨hasWord_of_encode rfl rfl, hasWord_of_encode rfl rfl⟩, fun s derr he hw => ?_, fun s derr he hw => ?_,
    fun s derr he => exec_refused_of_not_enabled (decide_eq_false he)⟩
  all_goals
    have hexec := execDmaCb_next.2 ⟨he, rfl⟩
    have hconsumed := s.cbpend_frame none
  · have hwaiting : State.rxstatus { s with cbpend := none } = .waiting := hw
    refine ⟨_, hexec, State.complete_cbpend _ _, State.complete_stopped _ _ hwaiting,
      State.complete_sig _ _ hwaiting, ?_, State.complete_flagsClear _ hwaiting, fun hore hrxne => ?_,
      exec_frame (i := .dmaCb derr) hexec⟩
    · simp only [State.complete_rxstatus _ _ hwaiting, State.adopted_eq, Status.ofDerr_eq_err]
    · exact hconsumed.comp (State.complete_frame_of_no_overrun _ hore hrxne)
  · have hnot : State.rxstatus { s with cbpend := none } ≠ .waiting := hw
    rw [State.complete_of_not_waiting _ _ hnot] at hexec
    exact ⟨_, hexec, rfl, hconsumed⟩

/-! ### Who posts -/

/-- Outside the handlers nothing raises `SIG`: `INIT` and `XS10P` lower it, the others do not write it. -/
theorem exec_sig_le_of_not_handler {i : Instr} {s t : State} (hi : i.agent.context ≠ .interrupt)
    (h : exec i s = .next t) : t.sig ≤ s.sig := by
  have hframe := exec_frame h .sig
  cases i
  case dmaCb | uartIrq => exact absurd rfl hi
  case init =>
    have hinit := execInit_next.1 h
    rw [State.initDone_eq] at hinit
    obtain ⟨-, ⟨-, rfl⟩ | ⟨-, rfl⟩⟩ := hinit
    · exact Nat.zero_le _
    · exact le_rfl
  case xs10p => obtain ⟨-, ⟨-, rfl⟩ | ⟨-, rfl⟩⟩ := execXs10p_next.1 h <;> exact Nat.sub_le _ _
  all_goals exact (hframe (by simp [writes, drainFields])).le

/-- Settles O53: what posts is a handler, and a handler posts only by an accepted completion. -/
theorem postOnlyFromWaiting : Obligations.PostOnlyFromWaiting := by
  intro i s t h hpost
  have hi : i.agent.context = .interrupt := by
    by_contra hi
    exact absurd (exec_sig_le_of_not_handler hi h) (Nat.not_le_of_gt hpost)
  have hinit : i ≠ .init := by rintro rfl; cases hi
  have hag : i.agent ≠ .sequencer := fun hag => by rw [hag] at hi; cases hi
  obtain ⟨-, hsame⟩ | ⟨hw, hr, hsig⟩ := exec_accepted hinit hag h
  · exact absurd hsame (Nat.ne_of_gt hpost)
  · exact ⟨hsig, hw, hr, exec_stopped_of_post h hpost, hi⟩

end Sys2Proof.Machine
end

section
/-! SUPPORT and PROOF. The status interrupt (43_status_interrupt_detectors.md): `Complete` with the flags clear, the line
error detector and the idle event that finds no session (O27), and the frame boundary detector (O28). -/

namespace Sys2Proof.Machine

/-! ### The flags on entry -/

theorem Uart.lineErr_eq_true {u : Uart} : u.lineErr = true ↔ u.ore = true ∨ u.ne = true ∨ u.fe = true := by
  simp [Uart.lineErr, or_assoc]

theorem Uart.lineErr_eq_false {u : Uart} (hore : u.ore = false) (hne : u.ne = false) (hfe : u.fe = false) :
    u.lineErr = false := by simp [Uart.lineErr, hore, hne, hfe]

/-! ### Completion with the flags clear

Both detectors run after the drain (R210), so that the overrun test of `Complete` never fires in them. -/

theorem FlagsClear.of_frame {w : List Field} {s t : State} (hs : FlagsClear s) (h : Frame w s t)
    (hw : drainFields.Disjoint w) : FlagsClear t :=
  have hsame {f : Field} (hf : f ∈ drainFields) : f.same s t := h f (hw hf)
  have ⟨hrxne, hore, hne, hfe, hidle⟩ := hs
  ⟨(hsame (f := .rxne) (by decide)).trans hrxne, (hsame (f := .ore) (by decide)).trans hore,
    (hsame (f := .ne) (by decide)).trans hne, (hsame (f := .fe) (by decide)).trans hfe,
    (hsame (f := .idleFlag) (by decide)).trans hidle⟩

theorem FlagsClear.complete_frame {s : State} (h : FlagsClear s) (st : Status) :
    Frame completeFields s (s.complete st) :=
  have ⟨hrxne, hore, _⟩ := h
  State.complete_frame_of_no_overrun st hore hrxne

theorem FlagsClear.complete {s : State} (h : FlagsClear s) (st : Status) : FlagsClear (s.complete st) :=
  h.of_frame (h.complete_frame st) (by simp [drainFields, completeFields])

/-- With the flags clear the status given is adopted (R193). -/
theorem FlagsClear.complete_rxstatus {s : State} (h : FlagsClear s) (st : Status) (hw : s.rxstatus = .waiting) :
    (s.complete st).rxstatus = if st = .err then .completedError else .completedOk := by
  have ⟨hrxne, hore, _⟩ := h
  simp [State.complete_rxstatus s st hw, State.adopted_eq, hrxne, hore]

/-! ### The line error detector -/

/-- A line error is counted with a session and without one (R212). -/
theorem State.lineError_cnt (s : State) : s.lineError.cnt = s.cnt.count s.cfg.cntW .uart := by
  rcases s.lineError_cases with ⟨-, h⟩ | ⟨-, h⟩ <;> simp [h]

theorem State.lineError_of_waiting {s : State} (hw : s.rxstatus = .waiting) :
    s.lineError = (s.count .uart).abort.complete .err := if_pos hw

theorem State.lineError_of_not_waiting {s : State} (hw : s.rxstatus ≠ .waiting) : s.lineError = s.count .uart :=
  if_neg hw

/-- Settles O27: the flags are drained, then the line error detector runs or nothing else does. -/
theorem uartIrqLineErrorsAndIdleWithoutSession : Obligations.UartIrqLineErrorsAndIdleWithoutSession := by
  refine ⟨hasWord_of_encode rfl rfl, fun s hen herr hw => ?_, fun s hen herr hw => ?_,
    fun s hen hore hne hfe hw => ?_, fun s hen => exec_refused_of_not_enabled hen⟩
  · have hexec := execUartIrq_next.2 ⟨hen, .inl ⟨Uart.lineErr_eq_true.2 herr, rfl⟩⟩
    have hframe := s.drainAndClear_frame.comp (State.lineError_frame _)
    have hcnt := congrArg Counters.uart (State.lineError_cnt s.drainAndClear)
    rw [State.lineError_of_waiting (s.drainAndClear_rxstatus.trans hw)] at hexec hframe hcnt
    have habort := State.abort_flagsClear (s.drainAndClear.count .uart)
    have hwaiting : (s.drainAndClear.count .uart).abort.rxstatus = .waiting := by simp [hw]
    exact ⟨_, hexec, habort.complete .err, State.complete_stopped _ _ hwaiting, habort.complete_rxstatus _ hwaiting,
      by simp [State.complete_sig _ _ hwaiting], hcnt, hframe.mono (by decide)⟩
  · have hexec := execUartIrq_next.2 ⟨hen, .inl ⟨Uart.lineErr_eq_true.2 herr, rfl⟩⟩
    rw [State.lineError_of_not_waiting (by simpa using hw)] at hexec
    have hcount := State.count_frame s.drainAndClear .uart
    exact ⟨_, hexec, s.drainAndClear_flagsClear.of_frame hcount (by simp [drainFields, Counter.field]), rfl,
      (s.drainAndClear_frame.comp hcount).mono (by decide)⟩
  · have hexec := execUartIrq_next.2 ⟨hen, .inr ⟨Uart.lineErr_eq_false hore hne hfe, .inl ⟨hw, rfl⟩⟩⟩
    exact ⟨_, hexec, s.drainAndClear_flagsClear, s.drainAndClear_frame⟩

/-! ### The frame boundary detector -/

@[simp] theorem State.drainAndClear_measuredLen (s : State) : s.drainAndClear.measuredLen = s.measuredLen := by
  simp [State.measuredLen]

/-- What the frame boundary detector judges: the flags are drained and the measured length is latched (R213). -/
def State.measured (s : State) : State := { s.drainAndClear with rxlen := s.measuredLen }

@[simp] theorem State.measured_rxlen (s : State) : s.measured.rxlen = s.measuredLen := rfl
@[simp] theorem State.measured_rxstatus (s : State) : s.measured.rxstatus = s.rxstatus := s.drainAndClear_rxstatus
@[simp] theorem State.measured_sig (s : State) : s.measured.sig = s.sig := s.drainAndClear_sig
@[simp] theorem State.measured_cnt (s : State) : s.measured.cnt = s.cnt := s.drainAndClear_cnt
@[simp] theorem State.measured_cfg (s : State) : s.measured.cfg = s.cfg := s.drainAndClear_cfg

theorem State.measured_flagsClear (s : State) : FlagsClear s.measured := s.drainAndClear_flagsClear

theorem State.measured_frame (s : State) : Frame (drainFields ++ [.rxlen]) s s.measured :=
  s.drainAndClear_frame.comp (.of_mem_or_same fun f => by cases f <;> simp [Field.same, State.measured])

/-- What becomes of a waiting session at an idle event, whichever way its length is judged (R213): it is completed with
`st` and counted in `c`. -/
structure ShortReception (c : Counter) (st : Status) (s t : State) : Prop where
  flags : FlagsClear t
  stopped : Stopped t
  sig : t.sig = s.sig + 1
  rxlen : t.rxlen = s.measuredLen
  rxstatus : t.rxstatus = if st = .err then .completedError else .completedOk
  cnt : t.cnt = s.cnt.count s.cfg.cntW c
  frame : Frame (drainFields ++ [.rxlen] ++ [c.field] ++ [.rxEn] ++ completeFields) s t

theorem State.shortReception {s : State} (c : Counter) (st : Status) (hw : s.rxstatus = .waiting) :
    ShortReception c st s ((s.measured.count c).stopRx.complete st) := by
  have hflags : FlagsClear (s.measured.count c).stopRx := s.measured_flagsClear
  have hwaiting : (s.measured.count c).stopRx.rxstatus = .waiting := by simp [hw]
  exact
    { flags := hflags.complete st
      stopped := State.complete_stopped _ st hwaiting
      sig := by simp [State.complete_sig _ st hwaiting]
      rxlen := by simp
      rxstatus := hflags.complete_rxstatus st hwaiting
      cnt := by simp
      frame := ((s.measured_frame.comp (State.count_frame _ c)).comp (State.stopRx_frame _)).comp
        (hflags.complete_frame st) }

/-- `UART_IRQ` ends a waiting session as malformed on a measured length of 0, and on one below the declared length. -/
theorem execUartIrq_malformed {s : State} (hen : enabled s .uartIrq = true) (herr : s.uart.lineErr = false)
    (hw : s.rxstatus = .waiting) (hlen : s.measuredLen.toNat < 1 ∨
      ∃ declared, s.frameLen = .ok declared ∧ s.measuredLen.toNat < declared) :
    ∃ t, exec .uartIrq s = .next t ∧ ShortReception .badidle .err s t := by
  refine ⟨s.measured.malformed, execUartIrq_next.2 ⟨hen, .inr ⟨herr, .inr ⟨hw, ?_⟩⟩⟩,
    State.shortReception .badidle .err hw⟩
  by_cases hzero : s.measuredLen.toNat < 1
  · exact .inl ⟨hzero, rfl⟩
  · obtain ⟨declared, hdeclared, hshort⟩ := hlen.resolve_left hzero
    exact .inr ⟨not_lt.1 hzero, declared, hdeclared, .inl ⟨hshort, rfl⟩⟩

/-- `UART_IRQ` ends a waiting session well on a length of at least 1 and at least the declared length. -/
theorem execUartIrq_validShort {s : State} {declared : Nat} (hen : enabled s .uartIrq = true)
    (herr : s.uart.lineErr = false) (hw : s.rxstatus = .waiting) (hdeclared : s.frameLen = .ok declared)
    (hpos : 1 ≤ s.measuredLen.toNat) (hlen : declared ≤ s.measuredLen.toNat) :
    ∃ t, exec .uartIrq s = .next t ∧ ShortReception .idle .ok s t :=
  ⟨s.measured.validShort,
    execUartIrq_next.2
      ⟨hen, .inr ⟨herr, .inr ⟨hw, .inr ⟨hpos, declared, hdeclared, .inr ⟨hlen, rfl⟩⟩⟩⟩⟩,
    State.shortReception .idle .ok hw⟩

/-- On a measured length of at least 1 the detector reads the header, and faults when the size accessor does (R213). -/
theorem State.frameBoundary_fault {s : State} {f : Fault} (hw : s.rxstatus = .waiting)
    (hpos : 1 ≤ s.measuredLen.toNat) (hf : s.frameLen = .error f) : s.frameBoundary = .fault f := by
  have hheader : State.frameLen { s with rxlen := s.measuredLen } = .error f :=
    (State.frameLen_congr s _ rfl rfl).trans hf
  rw [State.frameBoundary, if_pos hw, State.invalidateCache_eq]
  dsimp only
  rw [if_neg (Nat.not_lt.2 hpos), orFault_fault]
  exact .inl hheader

theorem execUartIrq_of_no_lineErr {s : State} (hen : enabled s .uartIrq = true) (herr : s.uart.lineErr = false) :
    execUartIrq s = s.drainAndClear.frameBoundary := by
  have hrequest : s.irqRequest = true := hen
  simp [execUartIrq, hrequest, herr, State.irqRequest_idle hrequest herr]

/-- Settles O28: the measured length decides, and at a length above 0 the header. -/
theorem uartIrqAcceptsShortReceptionIff : Obligations.UartIrqAcceptsShortReceptionIff := by
  refine ⟨fun s declared hen hore hne hfe hw hdeclared => ?_, fun s hen hore hne hfe hw hcap => ?_,
    fun s i hen hore hne hfe hw hcap hf => ?_⟩
  all_goals have herr := Uart.lineErr_eq_false hore hne hfe
  · by_cases hlen : 1 ≤ s.measuredLen.toNat ∧ declared ≤ s.measuredLen.toNat
    · obtain ⟨t, hexec, h⟩ := execUartIrq_validShort hen herr hw hdeclared hlen.1 hlen.2
      exact ⟨t, hexec, h.flags, h.stopped, h.sig, h.rxlen,
        fun _ => ⟨h.rxstatus, congrArg (·.idle) h.cnt, congrArg (·.badidle) h.cnt⟩,
        fun hnot => absurd hlen hnot, h.frame.mono (by decide)⟩
    · obtain ⟨t, hexec, h⟩ := execUartIrq_malformed hen herr hw (by
        rw [not_and_or, not_le, not_le] at hlen
        exact hlen.imp_right fun hshort => ⟨declared, hdeclared, hshort⟩)
      exact ⟨t, hexec, h.flags, h.stopped, h.sig, h.rxlen, fun hyes => absurd hyes hlen,
        fun _ => ⟨h.rxstatus, congrArg (·.badidle) h.cnt, congrArg (·.idle) h.cnt⟩,
        h.frame.mono (by decide)⟩
  · have hzero : s.measuredLen = 0 := by simp [State.measuredLen, hcap]
    obtain ⟨t, hexec, h⟩ := execUartIrq_malformed hen herr hw (.inl (by simp [hzero]))
    exact ⟨t, hexec, h.rxstatus, h.rxlen.trans hzero, h.sig, congrArg (·.badidle) h.cnt, h.stopped, h.flags⟩
  · refine (execUartIrq_of_no_lineErr hen herr).trans (State.frameBoundary_fault ?_ ?_ ?_)
    · exact s.drainAndClear_rxstatus.trans hw
    · rw [s.drainAndClear_measuredLen, State.measuredLen]
      bv_omega
    · rw [State.frameLen_congr s _ s.drainAndClear_mem s.drainAndClear_cfg, hf]

end Sys2Proof.Machine
end

section
/-! SUPPORT and PROOF. The CRC validator (44_crc_validator.md): each step of the reference checksum is linear and so is
the checksum (O38); the table holds the inner loop (O39); and `CrcCheck` judges the frame in the buffer (O36). -/

namespace Sys2Proof.Machine

/-! ### Linearity (R236) -/

/-- What the bit shifted out of `c` contributes: the generator, or nothing. -/
def crcCarry (carry : Bool) : Byte := if carry then 0x07 else 0

theorem crcCarry_xor (x y : Bool) : crcCarry (x ^^ y) = crcCarry x ^^^ crcCarry y := by
  cases x <;> cases y <;> rfl

theorem crcBit_eq_shift_xor_carry (c : Byte) : crcBit c = (c <<< 1) ^^^ crcCarry c.msb := by
  cases h : c.msb <;> simp [crcBit, crcCarry, h]

theorem crcBit_xor (c d : Byte) : crcBit (c ^^^ d) = crcBit c ^^^ crcBit d := by
  simp only [crcBit_eq_shift_xor_carry, BitVec.shiftLeft_xor_distrib, BitVec.msb_xor, crcCarry_xor]
  ac_rfl

theorem crcByte_xor (c d : Byte) : crcByte (c ^^^ d) = crcByte c ^^^ crcByte d := by
  simp only [crcByte, crcBit_xor]

theorem crc8From_zipWith_xor (c d : Byte) {as bs : List Byte} (hlen : as.length = bs.length) :
    crc8From (c ^^^ d) (List.zipWith (fun x y => x ^^^ y) as bs) = crc8From c as ^^^ crc8From d bs := by
  induction as generalizing c d bs with
  | nil =>
    cases List.length_eq_zero_iff.1 hlen.symm
    rfl
  | cons a as ih =>
    obtain ⟨b, bs, rfl⟩ := List.exists_cons_of_length_eq_add_one hlen.symm
    have hbytes : c ^^^ d ^^^ (a ^^^ b) = c ^^^ a ^^^ (d ^^^ b) := by ac_rfl
    simp only [List.zipWith_cons_cons, crc8From, hbytes, crcByte_xor]
    exact ih _ _ (Nat.succ.inj hlen)

theorem crc8From_zero_replicate_append (n : Nat) (bs : List Byte) :
    crc8From 0 (List.replicate n 0 ++ bs) = crc8From 0 bs := by
  induction n with
  | zero => rfl
  | succ n ih =>
    have hzero : crcByte (0 ^^^ 0) = 0 := rfl
    rw [List.replicate_succ, List.cons_append, crc8From, hzero, ih]

/-- Settles O38: the inner loop is linear and keeps 0, and so by induction on the bytes does the checksum. -/
theorem referenceCrcIsLinear : Obligations.ReferenceCrcIsLinear :=
  ⟨fun _ _ hlen => crc8From_zipWith_xor 0 0 hlen, crc8From_zero_replicate_append, by decide +kernel⟩

/-! ### The table (R231) -/

/-- The spec's table is the inner loop, entry by entry. -/
theorem crcTableAt_eq_crcByte : ∀ i : Byte, crcTableAt i = crcByte i := by decide +kernel

theorem crc8From_eq_foldl (c : Byte) (bs : List Byte) :
    crc8From c bs = bs.foldl (fun c b => crcByte (c ^^^ b)) c := by
  induction bs generalizing c with
  | nil => rfl
  | cons b bs ih => exact ih (crcByte (c ^^^ b))

theorem crc8Ref_singleton (b : Byte) : crc8Ref [b] = crcByte b := by simp [crc8Ref, crc8From]

theorem crc8Table_eq_crc8Ref (bs : List Byte) : crc8Table bs = crc8Ref bs := by
  simp only [crc8Table, crcTableAt_eq_crcByte, crc8Ref, crc8From_eq_foldl]

/-- Settles O39: the table holds the inner loop, and both forms fold it over the bytes. -/
theorem crcTableComputesTheReference : Obligations.CrcTableComputesTheReference :=
  ⟨crc8Table_eq_crc8Ref, fun i => (crcTableAt_eq_crcByte i).trans (crc8Ref_singleton i).symm, by decide +kernel⟩

/-! ### The verdict (R234) -/

/-- The two tests of R234 in one: the checksum fits and the code byte is no corrupt marker. -/
theorem State.verdict_eq (s : State) (stored : Byte) (front : List Byte) (code : Byte) :
    s.verdict stored front code =
      if stored = s.crc8 (front ++ [0x00]) ∧ s.isCorrupt code = false then .good else .bad := by
  by_cases hsum : stored = s.crc8 (front ++ [0x00])
  · cases hmark : s.isCorrupt code <;> simp [State.verdict, hsum, hmark]
  · rw [State.verdict, if_neg hsum, if_neg fun h => hsum h.1]

/-- On a length that can hold a frame, `CrcCheck` meets a byte without value or judges the frame in the buffer. -/
theorem State.crcCheck_fault_or_judge {s : State} {len : Nat} (hf : s.frameLen = .ok len) (hmin : 4 ≤ len)
    (hcap : len ≤ s.cfg.cap.toNat) :
    (∃ j, j < len ∧ Memory.read s.mem j = none ∧ s.crcCheck = .error (.unwrittenBuffer j)) ∨
    (∃ front stored, (front ++ [stored]).length = len ∧
      (∀ i, i < len → Memory.read s.mem i = (front ++ [stored])[i]?) ∧
      s.crcCheck = .ok (s.verdict stored front (front.getD 2 0))) := by
  rcases s.crcCheck_cases with ⟨f, herror, _⟩ | ⟨len', hlen, hcases⟩
  · rw [hf] at herror; cases herror
  · obtain rfl : len = len' := Except.ok.inj (hf.symm.trans hlen)
    rcases hcases with ⟨hshort, _⟩ | ⟨_, _, hfault | ⟨stored, front, hstored, hfront, hread, hcheck⟩⟩
    · simp only [minFrame, hdrLen, crcLen] at hshort
      omega
    · exact .inl hfault
    · refine .inr ⟨front, stored, by simp; omega, fun i hi => ?_, hcheck⟩
      rcases Nat.lt_or_ge i front.length with hlt | hge
      · rw [hread i (hfront ▸ hlt), List.getElem?_append_left hlt]
      · obtain rfl : i = front.length := by omega
        simpa [hfront] using hstored

theorem State.crcCheck_bad_length {s : State} {len : Nat} (hf : s.frameLen = .ok len)
    (hlen : len < 4 ∨ s.cfg.cap.toNat < len) : s.crcCheck = .ok .bad := by
  simp [State.crcCheck, hf, minFrame, hdrLen, crcLen, hlen]

/-- The verdict on a frame that lies in the buffer, with its last byte apart. -/
theorem State.crcCheck_of_frame {s : State} {front : List Byte} {stored : Byte}
    (hf : s.frameLen = .ok (front ++ [stored]).length) (hmin : 4 ≤ (front ++ [stored]).length)
    (hcap : (front ++ [stored]).length ≤ s.cfg.cap.toNat)
    (hread : ∀ i, i < (front ++ [stored]).length → Memory.read s.mem i = (front ++ [stored])[i]?) :
    s.crcCheck = .ok (s.verdict stored front (front.getD 2 0)) := by
  rcases State.crcCheck_fault_or_judge hf hmin hcap with ⟨j, hj, hnone, _⟩ | ⟨front', stored', hlen, hread', hcheck⟩
  · rw [hread j hj, List.getElem?_eq_none_iff] at hnone
    omega
  · have hframe : front' ++ [stored'] = front ++ [stored] :=
      List.ext_getElem?' fun i hi => by
        rw [hlen, max_self] at hi
        rw [← hread' i hi, hread i hi]
    obtain ⟨rfl, hlast⟩ := List.append_inj' hframe rfl
    obtain rfl := List.singleton_inj.1 hlast
    exact hcheck

/-- Settles O36: a frame in the buffer is judged, a length that holds no frame is bad, and a judged frame has no byte
without value. -/
theorem crcCheckVerdict : Obligations.CrcCheckVerdict := by
  refine ⟨fun s frame hf hmin hcap hread => ?_, fun s len => State.crcCheck_bad_length,
    fun s len hf hmin hcap hnone => ?_⟩
  · obtain rfl | ⟨front, stored, rfl⟩ := frame.eq_nil_or_concat'
    · simp at hmin
    · have hcode : 2 < front.length := by simp at hmin; omega
      rw [State.crcCheck_of_frame hf hmin hcap hread, State.verdict_eq]
      simp [List.getElem?_append_left hcode, hcode]
  · refine (State.crcCheck_fault_or_judge hf hmin hcap).resolve_right fun ⟨front, stored, hlen, hread, _⟩ => ?_
    obtain ⟨i, hi, hunwritten⟩ := hnone
    rw [hread i hi, List.getElem?_eq_none_iff] at hunwritten
    omega

end Sys2Proof.Machine
end

section
/-! SUPPORT and PROOF. The clock (45_timeout_timer.md R254): `TICK` is the only writer of `NOW` (O35). -/

namespace Sys2Proof.Machine

/-- `NOW` stands in the "State written" line of `TICK` alone (R254). -/
theorem now_not_mem_writes {i : Instr} (s : State) (hi : ∀ d, i ≠ .tick d) : .now ∉ writes s i := by
  cases i
  case tick d => exact absurd rfl (hi d)
  all_goals simp [writes, drainFields, completeFields]

/-- A step that is no `TICK` takes no time. -/
theorem exec_keeps_now {i : Instr} {s t : State} (hi : ∀ d, i ≠ .tick d) (h : exec i s = .next t) : t.now = s.now :=
  exec_frame h .now (now_not_mem_writes s hi)

/-- The word of `TICK` holds its count, low byte first (R112). -/
theorem hasWord_tick (lo hi : Byte) : HasWord (.tick (tickOperand lo hi)) [0x59, lo, hi] :=
  hasWord_of_encode (decide_eq_true (tickOperand_lt lo hi)) (by simp [encode])

/-- Settles O35: what `TICK` writes, and that `NOW` is in the frame of every other operation. -/
theorem tickAdvancesTheClock : Obligations.TickAdvancesTheClock :=
  ⟨fun lo hi => ⟨hasWord_tick lo hi, tickOperand_toNat lo hi⟩, exists_exec_tick,
    fun s => execTick_next.2 (by simp), fun _ _ _ => exec_keeps_now⟩

end Sys2Proof.Machine
end

section
/-! SUPPORT and PROOF. The platform agents (46_platform_agents.md R270 to R275): the line into and out of the UART (O29,
O30, O33), and what the DMA channels transfer and how they stop (O31, O32, O34). -/

namespace Sys2Proof.Machine

/-! ### The line -/

@[simp] theorem Uart.receive_rxne (u : Uart) (b : Byte) (ne fe : Bool) : (u.receive b ne fe).rxne = true := by
  cases h : u.rxne <;> simp [Uart.receive, h]

@[simp] theorem Uart.receive_ne (u : Uart) (b : Byte) (ne fe : Bool) : (u.receive b ne fe).ne = (u.ne || ne) := rfl

@[simp] theorem Uart.receive_fe (u : Uart) (b : Byte) (ne fe : Bool) : (u.receive b ne fe).fe = (u.fe || fe) := rfl

/-- On overrun the earlier byte is kept (R270). -/
@[simp] theorem Uart.receive_rdr (u : Uart) (b : Byte) (ne fe : Bool) :
    (u.receive b ne fe).rdr = if u.rxne then u.rdr else b := by
  cases h : u.rxne <;> simp [Uart.receive, h]

/-- A byte still pending is what overruns, and the flag is sticky (R270). -/
@[simp] theorem Uart.receive_ore (u : Uart) (b : Byte) (ne fe : Bool) :
    (u.receive b ne fe).ore = (u.ore || u.rxne) := by
  cases h : u.rxne <;> simp [Uart.receive, h]

theorem Uart.receiverOn_of_enabled {u : Uart} (hue : u.ue = true) (hre : u.re = true) : u.receiverOn = true := by
  simp [Uart.receiverOn, hue, hre]

/-- Settles O29: by whether the byte before is still pending. -/
theorem lineRxDeliversOrOverruns : Obligations.LineRxDeliversOrOverruns := by
  refine ⟨fun b => ⟨hasWord_of_encode rfl rfl, hasWord_of_encode rfl rfl, hasWord_of_encode rfl rfl,
    hasWord_of_encode rfl rfl⟩, fun s b ne fe hue hre => ?_, fun s b ne fe h => ?_⟩
  · have hexec : execLineRx b ne fe s = .next _ := execLineRx_next.2 ⟨Uart.receiverOn_of_enabled hue hre, rfl⟩
    refine ⟨_, hexec, s.uart.receive_rxne b ne fe, s.uart.receive_ne b ne fe, s.uart.receive_fe b ne fe,
      fun hempty => ?_, fun hpending => ?_, exec_frame (i := .lineRx b ne fe) hexec⟩
    · simp [hempty]
    · simp [hpending]
  · exact exec_refused_of_not_enabled (by simpa [enabled, imp_iff_not_or] using h)

/-- Settles O30: the flag and its enable are the first of the two requests in the guard of `UART_IRQ`. -/
theorem lineIdleSetsTheFlag : Obligations.LineIdleSetsTheFlag := by
  refine ⟨hasWord_of_encode rfl rfl, fun s hue hre => ?_, fun s h => ?_⟩
  · have hexec := execLineIdle_next.2 ⟨Uart.receiverOn_of_enabled hue hre, rfl⟩
    exact ⟨_, hexec, rfl, exec_frame (i := .lineIdle) hexec, fun hirq hidleie => by simp [enabled, hirq, hidleie]⟩
  · exact exec_refused_of_not_enabled (by simpa [enabled, imp_iff_not_or] using h)

/-- Settles O33: the guard of `LINE_TX` reads the UART alone. -/
theorem lineTxSendsTheHoldingRegister : Obligations.LineTxSendsTheHoldingRegister := by
  refine ⟨hasWord_of_encode rfl rfl, fun s htxe hue hte => ?_, fun s h => ?_⟩
  · have hexec := execLineTx_next.2 ⟨⟨htxe, by simp [Uart.transmitterOn, hue, hte]⟩, rfl⟩
    exact ⟨_, hexec, rfl, rfl, exec_frame (i := .lineTx) hexec⟩
  · exact exec_refused_of_not_enabled (by simpa [enabled, imp_iff_not_or, or_assoc] using h)

/-! ### The receive channel -/

/-- Settles O31: the byte is stored and `RXNE` cleared, then the channel advances, by whether the count ends and whether
the channel is circular. -/
theorem dmaRxXferStoresOneByte : Obligations.DmaRxXferStoresOneByte := by
  refine ⟨hasWord_of_encode rfl rfl, fun s hen hi => ?_, fun s => exec_refused_of_not_enabled⟩
  have hexec := execDmaRxXfer_next.2 ⟨hen, hi, rfl⟩
  have hframe := exec_frame (i := .dmaRxXfer) hexec
  refine ⟨_, hexec, ?stored, ?taken, fun hmore => ?more, fun hend hcirc => ?reload, fun hend hcirc => ?stop,
    fun hend hcb hnone => ?raised, fun hend hkept => ?kept, fun a ha => hframe (.buf a) (by simp [writes, ha]),
    hframe⟩
  case stored =>
    rw [State.rxAdvance_mem]
    exact Memory.read_write_same ..
  case taken => rw [State.rxAdvance_uart]
  case more =>
    simp only [State.rxAdvance_rxdma_ndtr, State.rxAdvance_rxdma_en, State.rxAdvance_cbpend, hmore, false_and,
      if_false, and_self]
  case reload => simp [hend, hcirc]
  case stop => simp [hend, hcirc]
  case raised => simp [hend, hcb, hnone]
  case kept =>
    rw [State.rxAdvance_cbpend, if_neg]
    rintro ⟨-, hcb, hnone⟩
    exact hkept.elim (fun hoff => Bool.false_ne_true (hoff.symm.trans hcb)) fun hpending => hpending hnone

/-- Settles O34: one update of the state, which reads neither the callback nor what is pending. -/
theorem dmaFaultRaisesAnErrorEvent : Obligations.DmaFaultRaisesAnErrorEvent := by
  refine ⟨hasWord_of_encode rfl rfl, fun s hen => ?_, fun s => exec_refused_of_not_enabled (i := .dmaFault)⟩
  have hexec := execDmaFault_next.2 ⟨hen, rfl⟩
  exact ⟨_, hexec, s.stopRx_rxdma_en, rfl, exec_frame (i := .dmaFault) hexec⟩

/-! ### The transmit channel -/

/-- The guard of `DMA_TX_XFER` is the request of the transmit channel (R273). -/
theorem State.txRequest_iff_enabled {s : State} : s.txRequest = true ↔ enabled s .dmaTxXfer = true := by
  simp [State.txRequest, Uart.transmitterOn, enabled, and_assoc]

theorem State.txRequest_iff {s : State} : s.txRequest = true ↔
    s.txdma.en = true ∧ s.uart.dmat = true ∧ s.uart.txe = true ∧ 0 < s.txdma.ndtr.toNat ∧
      s.uart.transmitterOn = true := by
  simp [State.txRequest, and_assoc]

/-- R273: a transfer reads the buffer as it is now, and a byte that nothing has written faults. -/
theorem execDmaTxXfer_unwritten {s : State} (hreq : s.txRequest = true) (hi : s.txIndex < s.cfg.cap.toNat)
    (h : Memory.read s.mem s.txIndex = none) : execDmaTxXfer s = .fault (.unwrittenBuffer s.txIndex) := by
  rw [execDmaTxXfer, if_pos hreq, s.bufRead_unwritten _ hi h]
  rfl

/-- Settles O32: behind the guard the byte decides; the count is positive, so it steps down, and reaches 0
only from 1. -/
theorem dmaTxXferMovesOneByte : Obligations.DmaTxXferMovesOneByte := by
  refine ⟨hasWord_of_encode rfl rfl, fun s b hen hi hb => ?_,
    fun s hen => execDmaTxXfer_unwritten (State.txRequest_iff_enabled.2 hen), fun s => exec_refused_of_not_enabled⟩
  have hreq := State.txRequest_iff_enabled.2 hen
  obtain ⟨hon, -, -, hpos, -⟩ := State.txRequest_iff.1 hreq
  have hexec := execDmaTxXfer_next.2 ⟨hreq, b, hi, hb, rfl⟩
  refine ⟨_, hexec, rfl, rfl, ?counted, fun hend => ?stopped, fun hmore => ?running,
    exec_frame (i := .dmaTxXfer) hexec⟩
  case counted =>
    rw [State.txAdvance_txdma_ndtr]
    bv_omega
  case stopped => simp [hend]
  case running =>
    rw [State.txAdvance_txdma_en, if_neg fun hend => hmore (by bv_omega)]
    exact hon

end Sys2Proof.Machine
end

section
/-! SUPPORT and PROOF. Faults (60_exceptions.md R318): which operation faults on what, from this where the two named faults
come from, and that under the DMA invariant no access leaves the buffer (O43). -/

namespace Sys2Proof.Machine

/-! ### What an access can fault on -/

/-- A fault of an access to `BUF`: the byte holds no value, or there is no such byte (20_memory.md R71, R73). -/
def State.accessFault (s : State) : Fault → Prop
  | .unwrittenBuffer k => Memory.read s.mem k = none
  | .bufferRange k => s.cfg.cap.toNat ≤ k
  | .txLenOutOfRange _ => False

theorem State.bufRead_accessFault {s : State} {k : Nat} {f : Fault} (h : s.bufRead k = .error f) :
    s.accessFault f := by
  obtain ⟨b, -, -, hr⟩ | ⟨hnone, -, hr⟩ | ⟨hout, hr⟩ := s.bufRead_cases k <;> rw [hr] at h <;> cases h
  · exact hnone
  · exact hout

theorem State.bufWrite_error {s : State} {k : Nat} {b : Byte} {f : Fault} (h : s.bufWrite k b = .error f) :
    s.cfg.cap.toNat ≤ k ∧ f = .bufferRange k := by
  by_cases hin : k < s.cfg.cap.toNat
  · rw [s.bufWrite_ok k b hin] at h
    cases h
  · rw [s.bufWrite_outside k b (Nat.not_lt.1 hin)] at h
    cases h
    exact ⟨Nat.not_lt.1 hin, rfl⟩

theorem State.frameLen_accessFault {s : State} {f : Fault} (h : s.frameLen = .error f) : s.accessFault f := by
  obtain ⟨i, -, ⟨rfl, hnone⟩ | ⟨rfl, hout⟩⟩ := s.frameLen_error f h
  · exact hnone
  · exact hout

theorem State.crcCheck_accessFault {s : State} {f : Fault} (h : s.crcCheck = .error f) : s.accessFault f := by
  obtain ⟨g, hlen, hr⟩ | ⟨len, -, ⟨-, hr⟩ | ⟨-, -, ⟨j, -, hnone, hr⟩ | ⟨_, _, -, -, -, hr⟩⟩⟩ := s.crcCheck_cases <;>
    rw [hr] at h <;> cases h
  · exact State.frameLen_accessFault hlen
  · exact hnone

/-! ### Accesses inside the buffer -/

theorem State.bufRead_ne_bufferRange {s : State} {i : Nat} (hi : i < s.cfg.cap.toNat) (k : Nat) :
    s.bufRead i ≠ .error (.bufferRange k) := by
  obtain ⟨_, -, -, hr⟩ | ⟨-, -, hr⟩ | ⟨hout, -⟩ := s.bufRead_cases i
  · simp [hr]
  · simp [hr]
  · exact absurd hi (Nat.not_lt.2 hout)

/-- The header lies inside the smallest buffer (00_scope.md R9). -/
theorem State.frameLen_ne_bufferRange {s : State} (hwf : s.cfg.wf = true) (k : Nat) :
    s.frameLen ≠ .error (.bufferRange k) := by
  intro h
  obtain ⟨i, hi, ⟨hf, -⟩ | ⟨-, hout⟩⟩ := s.frameLen_error _ h
  · cases hf
  · exact absurd (Config.lt_cap_of_wf hwf (Nat.lt_succ_of_lt hi)) (Nat.not_lt.2 hout)

/-- The check reads no byte behind a length that it has tested (R234). -/
theorem State.crcCheck_ne_bufferRange {s : State} (hwf : s.cfg.wf = true) (k : Nat) :
    s.crcCheck ≠ .error (.bufferRange k) := by
  intro h
  obtain ⟨g, hlen, hr⟩ | ⟨len, -, ⟨-, hr⟩ | ⟨-, -, ⟨j, -, -, hr⟩ | ⟨_, _, -, -, -, hr⟩⟩⟩ := s.crcCheck_cases <;>
    rw [hr] at h <;> cases h
  exact State.frameLen_ne_bufferRange hwf k hlen

/-- A receive channel that runs is programmed, and its count is at least 1 (R216). -/
theorem DmaInv.rxIndex_lt {s : State} (hi : DmaInv s) (hreq : s.rxRequest = true) : s.rxIndex < s.cfg.cap.toNat := by
  simp only [State.rxRequest, Bool.and_eq_true] at hreq
  obtain ⟨-, -, hoff, -⟩ | ⟨hlen, -, hlo, hhi⟩ := hi.receive
  · simp [hoff] at hreq
  · rw [State.rxIndex, hlen]
    bv_omega

/-- A transmit request needs a count of at least 1, which is at most the programmed length (R273). -/
theorem DmaInv.txIndex_lt {s : State} (hi : DmaInv s) (hreq : s.txRequest = true) : s.txIndex < s.cfg.cap.toNat := by
  obtain ⟨-, -, -, hpos, -⟩ := State.txRequest_iff.1 hreq
  obtain ⟨hcount, hlen⟩ := hi.transmit
  rw [State.txIndex]
  bv_omega

/-! ### Which operation faults -/

/-- What makes an operation fault in a state (R318): the read of the byte that `BUFRD` asks for, of the header, or of
the frame under check, the declared length, or the access of a transfer. -/
inductive FaultCause (s : State) : Instr → Fault → Prop
  | hostRead {a : Half} {f : Fault} (hin : a.toNat < s.cfg.cap.toNat) (h : s.bufRead a.toNat = .error f) :
      FaultCause s (.bufrd a) f
  | header {i : Instr} {f : Fault} (hi : i = .xs7 ∨ i = .uartIrq) (h : s.frameLen = .error f) : FaultCause s i f
  | length {len : Nat} (h : s.frameLen = .ok len) (hrange : len < 1 ∨ s.cfg.cap.toNat < len) :
      FaultCause s .xs7 (.txLenOutOfRange len)
  | check {f : Fault} (h : s.crcCheck = .error f) : FaultCause s .xs12 f
  | transmit {f : Fault} (hreq : s.txRequest = true) (h : s.bufRead s.txIndex = .error f) : FaultCause s .dmaTxXfer f
  | receive (hreq : s.rxRequest = true) (hout : s.cfg.cap.toNat ≤ s.rxIndex) :
      FaultCause s .dmaRxXfer (.bufferRange s.rxIndex)

/-- A meaning that tests its guard first faults only behind it. -/
theorem guarded_fault {p : Prop} [Decidable p] {body : Host.Outcome State Fault Refusal} {r : Refusal} {f : Fault}
    (h : (if p then body else .refused r) = .fault f) : p ∧ body = .fault f := by
  split at h
  · exact ⟨‹p›, h⟩
  · cases h

/-- An access whose continuation answers a state faults only itself. -/
theorem orFault_next_fault {α : Type} {r : Except Fault α} {k : α → State} {f : Fault}
    (h : orFault r (fun v => .next (k v)) = .fault f) : r = .error f := by
  obtain hr | ⟨_, -, hk⟩ := orFault_fault.1 h
  · exact hr
  · cases hk

/-- The frame boundary detector faults on the header alone (R213). -/
theorem State.frameLen_of_frameBoundary_fault {s : State} {f : Fault} (h : s.frameBoundary = .fault f) :
    s.frameLen = .error f := by
  unfold State.frameBoundary at h
  dsimp only at h
  split_ifs at h
  exact orFault_next_fault h

/-- `XS7` reads the header and then tests the length that it declares (R166). -/
theorem execXs7_faultCause {s : State} {f : Fault} (h : execXs7 s = .fault f) : FaultCause s .xs7 f := by
  obtain ⟨-, hbody⟩ := guarded_fault h
  obtain hf | ⟨len, hlen, hk⟩ := orFault_fault.1 hbody
  · exact .header (.inl rfl) hf
  · split at hk
    · cases hk
      exact .length hlen ‹_›
    · cases hk

/-- The drain of `UART_IRQ` moves neither the buffer nor the parameters, so that it finds the header as it was. -/
theorem execUartIrq_faultCause {s : State} {f : Fault} (h : execUartIrq s = .fault f) : FaultCause s .uartIrq f := by
  obtain ⟨hreq, -⟩ := guarded_fault h
  cases herr : s.uart.lineErr with
  | true => simp [execUartIrq, hreq, herr] at h
  | false =>
    rw [execUartIrq_of_no_lineErr hreq herr] at h
    exact .header (.inr rfl) ((State.frameLen_congr _ s.drainAndClear (by simp) (by simp)).symm.trans
      (State.frameLen_of_frameBoundary_fault h))

/-- Every fault has a cause that R318 names, or is the access of a transfer outside the buffer. -/
theorem exec_faultCause {i : Instr} {s : State} {f : Fault} (h : exec i s = .fault f) : FaultCause s i f := by
  cases i
  case bufrd =>
    obtain ⟨⟨-, hin⟩, hbody⟩ := guarded_fault h
    exact .hostRead hin (orFault_next_fault hbody)
  case bufwr =>
    obtain ⟨⟨-, hin⟩, hbody⟩ := guarded_fault h
    exact absurd (State.bufWrite_error (orFault_next_fault hbody)).1 (Nat.not_le.2 hin)
  case xs7 => exact execXs7_faultCause h
  case xs12 =>
    obtain ⟨-, hbody⟩ := guarded_fault h
    split at hbody
    · exact .check (orFault_next_fault hbody)
    · cases hbody
  case uartIrq => exact execUartIrq_faultCause h
  case dmaTxXfer =>
    obtain ⟨hreq, hbody⟩ := guarded_fault h
    exact .transmit hreq (orFault_next_fault hbody)
  case dmaRxXfer =>
    obtain ⟨hreq, hbody⟩ := guarded_fault h
    obtain ⟨hout, rfl⟩ := State.bufWrite_error (orFault_next_fault hbody)
    exact .receive hreq hout
  case diag | tick => cases h
  case init | xs10p =>
    obtain ⟨-, hbody⟩ := guarded_fault h
    split at hbody <;> cases hbody
  all_goals
    obtain ⟨-, hbody⟩ := guarded_fault h
    cases hbody

/-- Under the DMA invariant every index is tested or lies inside the buffer (R71). -/
theorem FaultCause.ne_bufferRange {i : Instr} {s : State} {f : Fault} (h : FaultCause s i f) (hi : DmaInv s) (k : Nat) :
    f ≠ .bufferRange k := by
  rintro rfl
  cases h with
  | hostRead hin h => exact State.bufRead_ne_bufferRange hin k h
  | header _ h => exact State.frameLen_ne_bufferRange hi.cfg k h
  | check h => exact State.crcCheck_ne_bufferRange hi.cfg k h
  | transmit hreq h => exact State.bufRead_ne_bufferRange (hi.txIndex_lt hreq) k h
  | receive hreq hout => exact absurd (hi.rxIndex_lt hreq) (Nat.not_lt.2 hout)

/-- Settles O43: by the causes of a fault. -/
theorem faultsOnlyWhereNamed : Obligations.FaultsOnlyWhereNamed := by
  refine ⟨fun i s k h => ?_, fun i s len h => ?_, fun i s k hi h => (exec_faultCause h).ne_bufferRange hi k rfl⟩
  · cases exec_faultCause h with
    | hostRead _ h => exact ⟨State.bufRead_accessFault h, .inl ⟨_, rfl⟩⟩
    | header hi h => exact ⟨State.frameLen_accessFault h, by obtain rfl | rfl := hi <;> simp⟩
    | check h => exact ⟨State.crcCheck_accessFault h, by simp⟩
    | transmit _ h => exact ⟨State.bufRead_accessFault h, by simp⟩
  · cases exec_faultCause h with
    | hostRead _ h => exact (State.bufRead_accessFault h).elim
    | header _ h => exact (State.frameLen_accessFault h).elim
    | length h hrange => exact ⟨rfl, h, hrange⟩
    | check h => exact (State.crcCheck_accessFault h).elim
    | transmit _ h => exact (State.bufRead_accessFault h).elim

end Sys2Proof.Machine
end

section
/-! SUPPORT and PROOF. The start of an exchange under the schedule assumptions of 46_platform_agents.md R285: only the line
raises a receive flag, so that between `XS2` and `XS8` nothing can complete the session, and the hazard HZ1 is excluded
(O55). -/

namespace Sys2Proof.Machine

/-! ### Runs under two restrictions -/

/-- Two restrictions on the operations of an execution hold together (46_platform_agents.md R285). -/
def bothAllow (p q : State → Instr → Prop) (s : State) (i : Instr) : Prop := p s i ∧ q s i

theorem Along.both {p q : State → Instr → Prop} {s : State} {is : List Instr} (hp : Along p s is)
    (hq : Along q s is) : Along (bothAllow p q) s is := by
  induction is generalizing s with
  | nil => trivial
  | cons i is ih => exact ⟨⟨hp.1, hq.1⟩, fun t h => ih (hp.2 t h) (hq.2 t h)⟩

/-! ### What the line alone can begin -/

/-- With the receive flags clear the status interrupt does not run and the receive channel moves nothing. -/
theorem FlagsClear.not_enabled {i : Instr} {s : State} (h : FlagsClear s) (hi : i = .uartIrq ∨ i = .dmaRxXfer) :
    enabled s i = false := by
  obtain ⟨hrxne, hore, hne, hfe, hidle⟩ := h
  obtain rfl | rfl := hi <;> simp [enabled, hrxne, hore, hne, hfe, hidle]

/-- Only the line raises a receive flag (R270, R271). -/
theorem exec_keeps_flagsClear {i : Instr} {s t : State} (hs : FlagsClear s) (hline : isLineEvent i = false)
    (h : exec i s = .next t) : FlagsClear t := by
  have hguard := enabled_of_exec_next h
  have hframe := hs.of_frame (exec_frame h)
  cases i
  case lineRx | lineIdle => cases hline
  case uartIrq => simp [hs.not_enabled (.inl rfl)] at hguard
  case dmaRxXfer => simp [hs.not_enabled (.inr rfl)] at hguard
  case dmaCb =>
    obtain ⟨-, rfl⟩ := execDmaCb_next.1 h
    exact FlagsClear.complete (s := { s with cbpend := none }) hs _
  case init =>
    obtain ⟨-, ⟨-, rfl⟩ | ⟨-, rfl⟩⟩ := execInit_next.1 h
    · exact s.initDone_flagsClear
    · exact hs
  case xs2 =>
    obtain ⟨-, rfl⟩ := execXs2_next.1 h
    exact s.drainAndClear_flagsClear
  case xs10t =>
    obtain ⟨-, rfl⟩ := execXs10t_next.1 h
    exact s.abort_flagsClear
  all_goals exact hframe (by simp [writes, drainFields])

/-! ### The session during setup -/

/-- A session that waits, and that nothing but the line or a fault of the receive channel can complete: no flag is
raised and no completion event is pending. -/
structure WaitsUndisturbed (s : State) : Prop where
  flags : FlagsClear s
  noEvent : s.cbpend = none
  waiting : s.rxstatus = .waiting

/-- During setup it goes on waiting undisturbed under `A_NO_EARLY_EVENT`: no step that ends a session stands there. -/
theorem exec_keeps_waitsUndisturbed {i : Instr} {s t : State} (hs : WaitsUndisturbed s)
    (hsetup : s.seq.inSetup = true) (hearly : noEarlyEvent s i) (h : exec i s = .next t) : WaitsUndisturbed t := by
  obtain ⟨hflags, hevent, hwaiting⟩ := hs
  obtain ⟨hline, hfault⟩ := hearly hsetup
  have hguard := enabled_of_exec_next h
  have hframe := exec_frame h
  refine ⟨exec_keeps_flagsClear hflags hline h, ?_, ?_⟩
  · cases i
    case xs4 =>
      obtain ⟨-, rfl⟩ := execXs4_next.1 h
      rfl
    case dmaFault => exact absurd rfl hfault
    case dmaRxXfer => simp [hflags.not_enabled (.inr rfl)] at hguard
    case dmaCb => simp [enabled, hevent] at hguard
    all_goals exact (hframe .cbpend (by simp [writes, drainFields, completeFields])).trans hevent
  · cases i
    case xs3 =>
      obtain ⟨-, rfl⟩ := execXs3_next.1 h
      rfl
    case uartIrq => simp [hflags.not_enabled (.inl rfl)] at hguard
    case dmaCb => simp [enabled, hevent] at hguard
    case xs10t | xs11 => simp_all [enabled, Seq.inSetup, Seq.code]
    all_goals exact (hframe .rxstatus (by simp [writes, drainFields])).trans hwaiting

/-- What holds of the session at each value of `SEQ` from `XS2` to `XS8`, under `A_NO_EARLY_EVENT` and `A_PROMPT_CB`. -/
def State.undisturbedAt (s : State) : Seq → Prop
  | .s3 => FlagsClear s
  | .s4 | .s5 | .s6 | .s7 | .s8 => WaitsUndisturbed s
  | _ => True

/-- `XS2` clears the flags; `A_PROMPT_CB` lets `XS3` run only when no completion event is left. -/
theorem exec_keeps_undisturbedAt {i : Instr} {s t : State} (hs : s.undisturbedAt s.seq)
    (hok : bothAllow noEarlyEvent promptCb s i) (h : exec i s = .next t) : t.undisturbedAt t.seq := by
  obtain ⟨hearly, hprompt⟩ := hok
  have hmoves := sequencerFollowsTheTable i s t h
  cases ht : t.seq <;> simp only [ht, seqTable, List.mem_cons, SeqEdge.mk.injEq, reduceCtorEq, and_false, false_or,
    and_true, List.not_mem_nil, or_false] at hmoves
  case s3 =>
    obtain ⟨-, rfl⟩ | ⟨hq, -⟩ := hmoves
    · obtain ⟨-, rfl⟩ := execXs2_next.1 h
      exact s.drainAndClear_flagsClear
    · rw [← hq] at hs
      exact exec_keeps_flagsClear hs (hearly (hq ▸ rfl)).1 h
  case s4 =>
    obtain ⟨hq, rfl⟩ | ⟨hq, -⟩ := hmoves
    · rw [hq] at hs
      have hevent : s.cbpend = none := by_contra fun hpending => (hprompt hpending).2.2 rfl
      obtain ⟨-, rfl⟩ := execXs3_next.1 h
      exact ⟨hs, hevent, rfl⟩
    · rw [← hq] at hs
      exact exec_keeps_waitsUndisturbed hs (hq ▸ rfl) hearly h
  case s5 | s6 | s7 | s8 =>
    obtain ⟨hq, -⟩ | ⟨hq, -⟩ := hmoves
    · rw [hq] at hs
      exact exec_keeps_waitsUndisturbed hs (hq ▸ rfl) hearly h
    · rw [← hq] at hs
      exact exec_keeps_waitsUndisturbed hs (hq ▸ rfl) hearly h
  all_goals trivial

/-- `XS8` finds the session `Waiting`: no completion has been accepted before it (R361, row HZ1). -/
theorem State.undisturbedAt.xs8FindsWaiting {i : Instr} {s t : State} (hs : s.undisturbedAt s.seq)
    (h : exec i s = .next t) : xs8FindsWaiting s i := by
  rintro rfl
  rw [(execXs8_next.1 h).1] at hs
  exact hs.waiting

/-- Settles O55: the two assumptions keep the session undisturbed until `XS8`, and so the channels as R178 has them. -/
theorem scheduleAssumptionsExcludeHz1 : Obligations.ScheduleAssumptionsExcludeHz1 := by
  intro is s t hi hidle hstop hearly hprompt hrun hend
  have hs : SessionInv s ∧ s.channelsAt s.seq ∧ s.undisturbedAt s.seq := by
    rw [hidle]
    exact ⟨hi, hstop, trivial⟩
  obtain ⟨-, hchannels, -⟩ := runOps_keeps
    (P := fun s => SessionInv s ∧ s.channelsAt s.seq ∧ s.undisturbedAt s.seq) (ok := bothAllow noEarlyEvent promptCb)
    (fun _ _ _ ⟨hi, hc, hu⟩ hok h => ⟨exec_keeps_sessionInv hi h,
      exec_keeps_channelsAt hi hc (hu.xs8FindsWaiting h) h, exec_keeps_undisturbedAt hu hok h⟩)
    hs (hearly.both hprompt) hrun
  rwa [hend] at hchannels

end Sys2Proof.Machine
end

section
/-! SUPPORT and PROOF. An accepted completion (60_exceptions.md R300, R308): the post is taken and the session closed, the
reply is judged or not, and the decided outcome is published (O58). -/

namespace Sys2Proof.Machine

/-- Where `XS12` finds a wake with outcome `o`: the post is taken, the critical section left, the session inactive
(R170, R173). -/
def State.awake (s : State) (o : ExOutcome) : State :=
  { s with sig := s.sig - 1, outcome := o, crit := false, rxstatus := .inactive, seq := .s12 }

/-- A completion with an error is counted, and decides the outcome (R170). -/
theorem runOps_wake_error {s : State} (hq : s.seq = .wait) (hpos : 0 < s.sig) (hr : s.rxstatus = .completedError)
    (is : List Instr) :
    runOps s (.xs10p :: .xs11 :: is) = runOps ((s.count .dmaerr).awake .protocolError) is := by
  have hxs10p := execXs10p_next.2 ⟨⟨hq, hpos⟩, .inl ⟨hr, rfl⟩⟩
  exact (runOps_cons (i := .xs10p) _ hxs10p).trans (runOps_cons (i := .xs11) _ (execXs11_next.2 ⟨rfl, rfl⟩))

/-- A completion without an error leaves the outcome to the check (R170). -/
theorem runOps_wake_ok {s : State} (hq : s.seq = .wait) (hpos : 0 < s.sig) (hr : s.rxstatus ≠ .completedError)
    (is : List Instr) : runOps s (.xs10p :: .xs11 :: is) = runOps (s.awake .pending) is := by
  have hxs10p := execXs10p_next.2 ⟨⟨hq, hpos⟩, .inr ⟨hr, rfl⟩⟩
  exact (runOps_cons (i := .xs10p) _ hxs10p).trans (runOps_cons (i := .xs11) _ (execXs11_next.2 ⟨rfl, rfl⟩))

/-- On an error wake the reply is not judged (R174). -/
theorem runOps_awake_error (s : State) (is : List Instr) :
    runOps (s.awake .protocolError) (.xs12 :: is) = runOps { s.awake .protocolError with seq := .s13 } is :=
  runOps_cons _ (execXs12_next.2 ⟨rfl, .inr ⟨by simp [State.awake], rfl⟩⟩)

/-- On a non-error wake the verdict on the buffer decides the outcome (R174, R237). -/
theorem runOps_awake_pending {s : State} {v : Verdict} (hv : s.crcCheck = .ok v) (is : List Instr) :
    runOps (s.awake .pending) (.xs12 :: is) = runOps { (s.awake .pending).judged v with seq := .s13 } is := by
  have hcheck : (s.awake .pending).crcCheck = .ok v := (s.crcCheck_congr (s.awake .pending) rfl rfl).trans hv
  refine runOps_cons _ (execXs12_next.2 ⟨rfl, .inl ⟨rfl, ?_⟩⟩)
  cases v
  · exact .inl ⟨hcheck, rfl⟩
  · exact .inr ⟨hcheck, rfl⟩

/-- What the return of an exchange shows, in terms of the state that `XS13` finds with an open sample (R175). -/
structure Returned (s t : State) : Prop where
  idle : t.seq = .idle
  valid : t.resultValid = true
  success : s.outcome = .success → t.result = .success
  protocolError : s.outcome = .protocolError → t.result = .protocolError
  dmaerr : t.cnt.dmaerr = s.cnt.dmaerr
  crc : t.cnt.crc = s.cnt.crc
  txn : t.cnt.txn = (s.cnt.txn + 1) % 2 ^ s.cfg.cntW
  duration : t.durLast = s.now - s.perfT0

theorem runOps_xs13_returned {s : State} (hq : s.seq = .s13) (hopen : s.perfActive = true) :
    ∃ t, runOps s [.xs13] = .next t ∧ Returned s t := by
  obtain ⟨-, hxs13, -⟩ := xs13Returns
  obtain ⟨t, hrun, hvalid, hidle, -, hsuccess, -, hprotocol, hsample, -, -, hframe⟩ := hxs13 s hq
  obtain ⟨hduration, htxn⟩ := hsample hopen
  exact ⟨t, runOps_cons _ hrun, hidle, hvalid, hsuccess, hprotocol, hframe .cntDmaerr (by simp),
    hframe .cntCrc (by simp), htxn, hduration⟩

/-- A waiting exchange has its duration sample open (R29, R160). -/
theorem LifecycleInv.perfActive_of_wait {s : State} (hi : LifecycleInv s) (hq : s.seq = .wait) :
    s.perfActive = true := by
  have hlatch := (lifecycleInv_iff.1 hi).2
  rw [hq] at hlatch
  exact hlatch.2.2.2

/-- Settles O58: the completion status decides whether the check does, and the return publishes what was decided. -/
theorem acceptedCompletionDecidesTheResult : Obligations.AcceptedCompletionDecidesTheResult := by
  intro s _ hlife hq hsig
  have hpos : 0 < s.sig := by omega
  have hopen := hlife.perfActive_of_wait hq
  refine ⟨fun hr => ?_, fun v hr hv => ?_⟩
  · rw [runOps_wake_error hq hpos hr, runOps_awake_error]
    obtain ⟨t, hrun, ht⟩ := runOps_xs13_returned
      (s := { (s.count .dmaerr).awake .protocolError with seq := .s13 }) rfl hopen
    exact ⟨t, hrun, ht.idle, ht.valid, ht.protocolError rfl, ht.dmaerr, ht.crc, ht.txn, ht.duration⟩
  · rw [runOps_wake_ok hq hpos (by simp [hr]), runOps_awake_pending hv]
    cases v with
    | good =>
      obtain ⟨t, hrun, ht⟩ := runOps_xs13_returned
        (s := { (s.awake .pending).judged .good with seq := .s13 }) rfl hopen
      have hresult := ht.success rfl
      exact ⟨t, hrun, ht.idle, ht.valid, by simp [hresult], by simp [hresult], ht.dmaerr, by simp, ht.txn, ht.duration⟩
    | bad =>
      obtain ⟨t, hrun, ht⟩ := runOps_xs13_returned
        (s := { (s.awake .pending).judged .bad with seq := .s13 }) rfl hopen
      have hresult := ht.protocolError rfl
      exact ⟨t, hrun, ht.idle, ht.valid, by simp [hresult], by simp [hresult], ht.dmaerr, fun _ => ht.crc, ht.txn,
        ht.duration⟩

end Sys2Proof.Machine
end

section
/-! SUPPORT and PROOF. The lifecycle (70_reset_and_hazards.md): the reset values (O51), the invariants there (O49), what can
happen there (O52), and that nothing undoes `INIT` (O59). -/

namespace Sys2Proof.Machine

/-! ### Reset -/

theorem Counters.get_resetWith (cfg : Config) (c : Counter) : (State.resetWith cfg).cnt.get c = 0 := by
  cases c <;> rfl

/-- `SR` shows `TXE` alone, and the control registers are clear (R340). -/
theorem Uart.reset_images : Uart.reset.sr = 0x80 ∧ Uart.reset.cr1 = 0 ∧ Uart.reset.cr3 = 0 := by decide

/-- Settles O51: the table of R340, value by value. -/
theorem resetValues : Obligations.ResetValues := by
  intro cfg
  have hflags : FlagsClear (State.resetWith cfg) := ⟨rfl, rfl, rfl, rfl, rfl⟩
  obtain ⟨hsr, hcr1, hcr3⟩ := Uart.reset_images
  exact ⟨_, rfl, rfl, rfl, rfl, rfl, rfl, rfl, rfl, rfl, rfl, rfl, rfl, rfl, rfl, rfl, rfl, rfl, rfl, hflags, rfl,
    hsr, rfl, hcr1, rfl, hcr3, rfl, fun _ => rfl, rfl, rfl, rfl, Counters.get_resetWith cfg, rfl, rfl⟩

theorem resetWith_lifecycleInv (cfg : Config) (trace : List Byte) :
    LifecycleInv { State.resetWith cfg with trace := trace } := by
  refine lifecycleInv_iff.2 ⟨?_, rfl, rfl, nofun⟩
  constructor <;> simp [State.resetWith, Uart.reset]

theorem resetWith_dmaInv {cfg : Config} (hwf : cfg.wf = true) (trace : List Byte) :
    DmaInv { State.resetWith cfg with trace := trace } where
  cfg := hwf
  receive := .inl ⟨rfl, rfl, rfl, Nat.zero_le _⟩
  callback := nofun
  transmit := ⟨le_rfl, Nat.zero_le _⟩
  inside := nofun

theorem resetWith_countersFit (cfg : Config) (trace : List Byte) :
    CountersFit { State.resetWith cfg with trace := trace } := fun c =>
  lt_of_eq_of_lt (Counters.get_resetWith cfg c) (by positivity)

/-- Settles O49: each invariant by its own lemma. -/
theorem invariantsHoldAtReset : Obligations.InvariantsHoldAtReset := fun cfg tr hwf =>
  ⟨resetWith_sessionInv cfg tr, resetWith_lifecycleInv cfg tr, resetWith_dmaInv hwf tr, resetWith_countersFit cfg tr,
    rfl, rfl, rfl, rfl, rfl⟩

/-! ### After reset -/

/-- R341: the guards that hold at reset. -/
theorem enabled_resetWith_iff {cfg : Config} {i : Instr} : enabled (State.resetWith cfg) i = true ↔
    (i = .init ∨ (∃ a d, i = .bufwr a d ∧ a.toNat < cfg.cap.toNat) ∨ ∃ d, i = .tick d) ∨
      ∃ a, i = .bufrd a ∧ a.toNat < cfg.cap.toNat := by
  cases i <;> simp only [enabled, Bool.and_eq_true, decide_eq_true_eq] <;> simp [State.resetWith, Uart.reset]

/-- An operation that faults is enabled, or it would have been refused. -/
theorem enabled_of_exec_fault {i : Instr} {s : State} {f : Fault} (h : exec i s = .fault f) : enabled s i = true := by
  by_contra hn
  rw [exec_refused_iff.2 ⟨Bool.not_eq_true _ ▸ hn, rfl⟩] at h
  cases h

/-- No byte is written at reset, so that `BUFRD` faults. -/
theorem exec_bufrd_resetWith {cfg : Config} {a : Half} (ha : a.toNat < cfg.cap.toNat) :
    exec (.bufrd a) (State.resetWith cfg) = .fault (.unwrittenBuffer a.toNat) :=
  execBufrd_unwritten rfl ha rfl

/-- The three others that are enabled take a step. -/
theorem exists_exec_resetWith {cfg : Config} {i : Instr}
    (hi : i = .init ∨ (∃ a d, i = .bufwr a d ∧ a.toNat < cfg.cap.toNat) ∨ ∃ d, i = .tick d) :
    ∃ t, exec i (State.resetWith cfg) = .next t := by
  obtain rfl | ⟨a, d, rfl, ha⟩ | ⟨d, rfl⟩ := hi
  · by_cases hch : cfg.rxchAvail = true ∧ cfg.txchAvail = true
    · exact ⟨_, exec_init_granted rfl rfl hch.1 hch.2⟩
    · exact ⟨_, exec_init_not_granted rfl rfl hch⟩
  · exact ⟨_, execBufwr_next.2 ⟨⟨rfl, ha⟩, rfl⟩⟩
  · exact ⟨_, rfl⟩

/-- Settles O52: what steps or faults is enabled, and of the enabled only `BUFRD` faults. -/
theorem enabledAfterReset : Obligations.EnabledAfterReset := by
  intro cfg i _
  refine ⟨⟨fun ⟨t, h⟩ => ?_, exists_exec_resetWith⟩, ⟨fun ⟨f, h⟩ => ?_, fun ⟨a, hi, ha⟩ => ?_⟩, rfl, rfl, rfl, rfl, rfl⟩
  · refine (enabled_resetWith_iff.1 (enabled_of_exec_next h)).resolve_right ?_
    rintro ⟨a, rfl, ha⟩
    rw [exec_bufrd_resetWith ha] at h
    cases h
  · refine (enabled_resetWith_iff.1 (enabled_of_exec_fault h)).resolve_left fun hi => ?_
    obtain ⟨t, ht⟩ := exists_exec_resetWith hi
    rw [ht] at h
    cases h
  · exact ⟨_, hi ▸ exec_bufrd_resetWith ha⟩

/-! ### After `INIT` -/

/-- Only `INIT` writes what it sets, and once `INITED` is 1 it is refused (R147, R343). -/
theorem exec_keeps_enables_of_inited {i : Instr} {s t : State} (hs : s.inited = true) (h : exec i s = .next t)
    {f : Field} (hf : f ∈ enableFields) : f.same s t := by
  refine exec_keeps_enables ?_ h hf
  rintro rfl
  simpa [hs] using (execInit_next.1 h).1

/-- Settles O59: a step idles or runs an operation, and that keeps the enables and the parameters. -/
theorem noTeardown : Obligations.NoTeardown := by
  intro s t h hs
  obtain ⟨-, rfl⟩ | ⟨i, rest, -, hexec⟩ := step_next.1 h
  · exact ⟨hs, rfl, rfl, rfl, rfl, rfl, rfl, rfl⟩
  · have hsame : ∀ f ∈ enableFields, f.same { s with trace := rest } t := fun _ =>
      exec_keeps_enables_of_inited (s := { s with trace := rest }) hs hexec
    simp only [enableFields, List.forall_mem_cons, Field.same] at hsame
    obtain ⟨hinited, -, hue, hte, hre, hidleie, heie, hatt, -⟩ := hsame
    exact ⟨hinited.trans hs, hue, hte, hre, hidleie, heie, hatt, exec_cfg (s := { s with trace := rest }) hexec⟩

end Sys2Proof.Machine
end
